-- ==== Sys2Proof/Word.lean ====
section
/-! DEFINITION. The plain value types of the part: the bytes of the sort link, the 24-bit lane
position (0.7), the 32-bit word of the directory RAM (5.2) and the decimal digit of a code string. -/

namespace Sys2Proof

/-- One byte of the sort link (R187). -/
abbrev Byte := BitVec 8

/-- A run of bytes in the order they are sent. -/
abbrev Bytes := List Byte

/-- A lane position: 24 bits, wrapping from 16,777,215 to 0 (R1, R3). -/
abbrev Position := BitVec 24

/-- A word of the directory RAM (R100). -/
abbrev DirWord := BitVec 32

/-- A decimal digit of a code string (R46). -/
abbrev Digit := Fin 10

end Sys2Proof
end

