-- ==== Sys2Proof/Config.lean ====
section
/-! DEFINITION. What the part fixes (the capacities of R202 and the numeric limits the rules name),
and the one value the manual leaves unstated, kept as an opaque constant. -/

namespace Sys2Proof.Config

/-- Records per track (R23). -/
def trackCapacity : Nat := 64
/-- Gates per lane (0.1, R202). -/
def gates : Nat := 12
/-- Scan heads per lane (R202). -/
def heads : Nat := 4
/-- Format entries per slot (4.1). -/
def formatCapacity : Nat := 8
/-- Range entries per slot (4.1). -/
def rangeCapacity : Nat := 1024
/-- Doctype entries per slot (4.1). -/
def doctypeCapacity : Nat := 64
/-- Hot-list entries (R93). -/
def hotCapacity : Nat := 256
/-- Directory entries (R101). -/
def directoryEntries : Nat := 262144
/-- Word addresses of the directory RAM (5.2). -/
def directoryWords : Nat := 1048576
/-- Waiting lookup requests (R113). -/
def lookupCapacity : Nat := 8
/-- Requests in the request buffer (R192). -/
def bufferCapacity : Nat := 4
/-- Places of the response queue (R193). -/
def responsePlaces : Nat := 16
/-- Notices in the notice queue (R199). -/
def noticeCapacity : Nat := 16
/-- Dispositions in the disposition queue (R199). -/
def dispositionCapacity : Nat := 64
/-- Largest length field of a frame (R188). -/
def maxFrameLength : Nat := 300
/-- Largest account of a key (0.6, R60). -/
def accountMax : Nat := 999999999999
/-- Largest speed figure in su (R175). -/
def speedMax : Nat := 16383
/-- The value at which the window pulse count stops (R174). -/
def pulseMax : Nat := 1048575
/-- The family code of DEVICE STATUS (R202). -/
def familyCode : Nat := 0x2412
/-- The revision number of DEVICE STATUS (R202). -/
def revision : Nat := 1

/-- FREE VALUE (assumption log 6). What SPEED READ's two-byte pulse-count field carries when the
window pulse count exceeds 65,535: R185 reports the count, R197 gives a count two bytes, and no
rule says what a larger count reads as. No proof can see its value. -/
opaque pulseCountField : Nat → BitVec 16

end Sys2Proof.Config
end

