-- ==== Sys2Proof/Syntax.lean ====
section
/-! DEFINITION. The commands the part takes from outside: one constructor of `Instr` for every row of
spec/opcode_table.json, and the requests of the sort link (10.6) as they wait in the request buffer.
Request operands are the unsigned numbers the fields of the frame carry (R195, R197), before any
range test. -/

namespace Sys2Proof

/-- The two lanes (0.7). -/
inductive LaneId where
  | lane0
  | lane1
  deriving DecidableEq, Repr

/-- The two plan slots (0.7). -/
inductive SlotId where
  | slot0
  | slot1
  deriving DecidableEq, Repr

/-- A gate 1 to 12, or the bin behind it: gate number n is index n − 1. -/
abbrev Gate := Fin 12

/-- A scan head 0 to 3. -/
abbrev HeadId := Fin 4

/-- An item of CONSTANTS WRITE (R6, R198). -/
structure ConstantItem where
  code : Nat
  index : Nat
  value : Nat
  deriving DecidableEq, Repr

/-- An item of SPEED SET (R176, R198). -/
structure SpeedItem where
  code : Nat
  value : Nat
  deriving DecidableEq, Repr

/-- An item of LOAD FORMATS (R65, R198): the format's prefix is a digit count and four characters. -/
structure FormatItem where
  number : Nat
  pfxCount : Nat
  pfx1 : Byte
  pfx2 : Byte
  pfx3 : Byte
  pfx4 : Byte
  codeLength : Nat
  accountStart : Nat
  accountLength : Nat
  doctypeStart : Nat
  doctypeLength : Nat
  scheme : Nat
  deriving DecidableEq, Repr

/-- An item of LOAD RANGES (R66, R198). -/
structure RangeItem where
  low : Nat
  high : Nat
  cls : Nat
  deriving DecidableEq, Repr

/-- An item of LOAD CLASSES (R76, R198). -/
structure ClassItem where
  cls : Nat
  defined : Nat
  primary0 : Nat
  overflow0 : Nat
  primary1 : Nat
  overflow1 : Nat
  deriving DecidableEq, Repr

/-- An item of LOAD DOCTYPES (R68, R198). -/
structure DoctypeItem where
  doctype : Nat
  cls : Nat
  strength : Nat
  deriving DecidableEq, Repr

/-- An item of LOAD SETTINGS (R77, R198). -/
structure SettingItem where
  code : Nat
  value : Nat
  deriving DecidableEq, Repr

/-- A request of the table of 10.6 with its parameters, as the request buffer holds it. `unknown` is
a request whose code is not in the table, `badLength` one whose parameters have a length its code
does not require (R194). -/
inductive Request where
  | deviceStatus
  | countersRead (clear : Nat)
  | deviceReset
  | laneRun (lane : Nat)
  | laneStop (lane : Nat)
  | laneAbort (lane : Nat)
  | laneClear (lane : Nat)
  | laneStatus (lane : Nat)
  | constantsWrite (lane : Nat) (items : List ConstantItem)
  | constantsRead (lane : Nat)
  | machineLock (lane : Nat)
  | trackRead (lane : Nat) (index : Nat)
  | planOpen (slot : Nat)
  | loadFormats (slot : Nat) (start : Option Nat) (items : List FormatItem)
  | loadRanges (slot : Nat) (start : Option Nat) (items : List RangeItem)
  | loadClasses (slot : Nat) (items : List ClassItem)
  | loadDoctypes (slot : Nat) (start : Option Nat) (items : List DoctypeItem)
  | loadSettings (slot : Nat) (items : List SettingItem)
  | planCheck (slot : Nat)
  | planSwitch (slot : Nat)
  | planStatus
  | planRead (slot : Nat) (table : Nat) (index : Nat)
  | hotAdd (account : Nat) (cls : Nat)
  | hotDelete (account : Nat)
  | hotClear
  | hotRead (index : Nat)
  | directorySet (base : Nat) (count : Nat) (wait : Nat)
  | directoryStatus
  | query (slot : Nat) (account : Nat) (doctype : Option Nat)
  | arbiterSet (priority0 : Nat) (priority1 : Nat) (ageLimit : Nat)
  | lookupStatus
  | gateStatus (lane : Nat)
  | binLimits (lane : Nat) (bin : Nat) (capacity : Nat) (nearFull : Nat)
  | binSwap (lane : Nat) (bin : Nat)
  | binStatus (lane : Nat)
  | gateRestore (lane : Nat) (gate : Nat)
  | speedSet (lane : Nat) (items : List SpeedItem)
  | alertClear (lane : Nat)
  | speedRead (lane : Nat)
  | unknown (code : Nat)
  | badLength (code : Nat)
  deriving DecidableEq, Repr

/-- The commands of spec/opcode_table.json. An event on a lane's lines names the lane; a position
event names the lane and the piece whose event falls due (R4); a byte, a directory word and a
request's fields are the operands the line carries. A request command is the arrival of a request
with the given tag and parameters at the request buffer (R192, R194). -/
inductive Instr where
  -- transport lines and position events
  | encoderPulse (lane : LaneId)
  | leadingEdge (lane : LaneId)
  | trailingEdge (lane : LaneId)
  | forcedTrail (lane : LaneId) (piece : Nat)
  | readClose (lane : LaneId) (piece : Nat)
  | lastChance (lane : LaneId) (piece : Nat)
  | fireEvent (lane : LaneId) (piece : Nat)
  | releaseEvent (lane : LaneId) (gate : Gate) (piece : Nat)
  | sensorArrival (lane : LaneId) (bin : Gate)
  | windowClose (lane : LaneId) (piece : Nat)
  | runoutLeadingEdge (lane : LaneId)
  | runoutWindowClose (lane : LaneId) (piece : Nat)
  -- timed events
  | startTimeout (lane : LaneId)
  | drainTimeout (lane : LaneId)
  | windowEnd (lane : LaneId)
  | checkCompletion
  | hotStageComplete
  | rangeStageComplete
  | defaultStageComplete
  | doctypeStageComplete
  -- directory port
  | readyAsserted (word : DirWord)
  | readTimeout
  | holdAsserted
  | holdDeasserted
  -- sort link
  | lengthError (byte : Byte)
  | gapAbandon
  | frameReceived (byte : Byte)
  | frameSent
  -- requests
  | unknownRequest (tag : Nat) (code : Nat)
  | deviceStatus (tag : Nat)
  | countersRead (tag : Nat) (clear : Nat)
  | deviceReset (tag : Nat)
  | laneRun (tag : Nat) (lane : Nat)
  | laneStop (tag : Nat) (lane : Nat)
  | laneAbort (tag : Nat) (lane : Nat)
  | laneClear (tag : Nat) (lane : Nat)
  | laneStatus (tag : Nat) (lane : Nat)
  | constantsWrite (tag : Nat) (lane : Nat) (items : List ConstantItem)
  | constantsRead (tag : Nat) (lane : Nat)
  | machineLock (tag : Nat) (lane : Nat)
  | trackRead (tag : Nat) (lane : Nat) (index : Nat)
  | planOpen (tag : Nat) (slot : Nat)
  | loadFormats (tag : Nat) (slot : Nat) (start : Option Nat) (items : List FormatItem)
  | loadRanges (tag : Nat) (slot : Nat) (start : Option Nat) (items : List RangeItem)
  | loadClasses (tag : Nat) (slot : Nat) (items : List ClassItem)
  | loadDoctypes (tag : Nat) (slot : Nat) (start : Option Nat) (items : List DoctypeItem)
  | loadSettings (tag : Nat) (slot : Nat) (items : List SettingItem)
  | planCheck (tag : Nat) (slot : Nat)
  | planSwitch (tag : Nat) (slot : Nat)
  | planStatus (tag : Nat)
  | planRead (tag : Nat) (slot : Nat) (table : Nat) (index : Nat)
  | hotAdd (tag : Nat) (account : Nat) (cls : Nat)
  | hotDelete (tag : Nat) (account : Nat)
  | hotClear (tag : Nat)
  | hotRead (tag : Nat) (index : Nat)
  | directorySet (tag : Nat) (base : Nat) (count : Nat) (wait : Nat)
  | directoryStatus (tag : Nat)
  | query (tag : Nat) (slot : Nat) (account : Nat) (doctype : Option Nat)
  | arbiterSet (tag : Nat) (priority0 : Nat) (priority1 : Nat) (ageLimit : Nat)
  | lookupStatus (tag : Nat)
  | gateStatus (tag : Nat) (lane : Nat)
  | binLimits (tag : Nat) (lane : Nat) (bin : Nat) (capacity : Nat) (nearFull : Nat)
  | binSwap (tag : Nat) (lane : Nat) (bin : Nat)
  | binStatus (tag : Nat) (lane : Nat)
  | gateRestore (tag : Nat) (lane : Nat) (gate : Nat)
  | speedSet (tag : Nat) (lane : Nat) (items : List SpeedItem)
  | alertClear (tag : Nat) (lane : Nat)
  | speedRead (tag : Nat) (lane : Nat)
  -- reset input, receiver bytes, READY line
  | coldReset
  | resetRelease
  | byteReceived (byte : Byte)
  | readyDeasserted
  deriving DecidableEq, Repr

end Sys2Proof
end

