-- ==== Sys2Proof/Decode.lean ====
section
/-! DEFINITION. The rows of spec/opcode_table.json give no bits, so no word spells a command. (The
bytes of a request frame are read by Sys2Proof/Machine/Operands.lean.) -/

namespace Sys2Proof

/-- The command a word spells by the table's bits. Every row of the table has an empty list of
fields and no match bits, so there is none (assumption log 1). -/
def decodeTableWord (_nbits _w : Nat) : Option Instr := none

end Sys2Proof
end

