-- ==== Sys2Proof/Machine/State.lean ====
section
/-! DEFINITION. The state of the part as plain data: two lanes, two plan slots, the hot list, the
directory port, the lookup queue and engine, the link unit, the queue of waiting commands, and the
state after a cold reset has been released (R204). -/

namespace Sys2Proof.Machine

/-! ### Why a step can stop -/

/-- Why the machine stops with a fault. -/
inductive Fault where
  /-- Raised by LEADING_EDGE on a lane that takes letters while no plan slot is ACTIVE. R83 rules this
  state out (a lane is started only with an ACTIVE slot, and one slot then stays ACTIVE), so the
  manual gives no stamp for the record. Safe: no run from reset reaches it (assumption log 5). -/
  | noActiveSlot
  deriving DecidableEq, Repr

/-- Why the machine refuses a command. -/
inductive Refusal where
  /-- A command that has no meaning yet, by its mnemonic. Safe. No arm of `exec` answers it. -/
  | notModelled (mnemonic : String)
  deriving DecidableEq, Repr

/-! ### The lane unit (Chapter 1) -/

/-- The constants of one gate (R5, item codes 2 to 5). -/
structure GateConstants where
  /-- D[g], counts. -/
  distance : Nat
  /-- L[g], µs. -/
  leadTime : Nat
  /-- H[g], counts. -/
  dwell : Nat
  /-- C[g], counts. -/
  confirm : Nat
  deriving DecidableEq, Repr

/-- The machine constants of one lane (R5). -/
structure Constants where
  /-- G. -/
  gateCount : Nat
  gates : Vector GateConstants 12
  /-- R. -/
  runoutDistance : Nat
  /-- Wr. -/
  runoutWindow : Nat
  headCount : Nat
  /-- O[h]. -/
  headOffset : Vector Nat 4
  /-- A. -/
  halfWindow : Nat
  /-- K. -/
  readClose : Nat
  /-- Lmin. -/
  lengthMin : Nat
  /-- Lmax. -/
  lengthMax : Nat
  /-- M. -/
  guardMargin : Nat
  /-- Sf, su. -/
  speedFloor : Nat
  missLimit : Nat
  jamLimit : Nat
  /-- Seconds. -/
  startLimit : Nat
  /-- Seconds. -/
  drainLimit : Nat
  deriving DecidableEq, Repr

/-- The cold-reset constants of a gate at distance `d` (R5). -/
def GateConstants.cold (d : Nat) : GateConstants := ⟨d, 0, 0, 400⟩

/-- The cold-reset column of R5. -/
def Constants.cold : Constants where
  gateCount := 0
  gates := #v[.cold 4000, .cold 8000, .cold 12000, .cold 16000, .cold 20000, .cold 24000,
    .cold 28000, .cold 32000, .cold 36000, .cold 40000, .cold 44000, .cold 48000]
  runoutDistance := 60000
  runoutWindow := 1000
  headCount := 0
  headOffset := #v[0, 0, 0, 0]
  halfWindow := 16
  readClose := 3000
  lengthMin := 40
  lengthMax := 2400
  guardMargin := 200
  speedFloor := 0
  missLimit := 2
  jamLimit := 3
  startLimit := 20
  drainLimit := 30

/-- The states of a lane (1.4). -/
inductive LaneState where
  | stopped
  | starting
  | running
  | draining
  | faulted
  deriving DecidableEq, Repr

/-- The fault causes (R17). -/
inductive FaultCause where
  | abort
  | startTimeout
  | drainTimeout
  | trackFull
  | jam
  deriving DecidableEq, Repr

/-- The causes a LANE STATE notice carries (1.4.1, 10.9). -/
inductive NoticeCause where
  | run
  | qualified
  | startTimeout
  | stop
  | drained
  | drainTimeout
  | abort
  | trackFull
  | jam
  | clear
  deriving DecidableEq, Repr

/-! ### The piece track (Chapter 2) and the code (Chapter 3) -/

/-- What a filled report slot holds (2.2): the stamp, and the digit string of a GOOD report or `none`
for NOREAD. -/
structure Report where
  stamp : Position
  digits : Option (List Digit)
  deriving DecidableEq, Repr

/-- The read outcome of a record (R58, R59). -/
inductive ReadOutcome where
  | resolved (code : List Digit) (format : Nat) (contested : Bool)
  | noread
  | multi
  | checkfail
  | noformat
  deriving DecidableEq, Repr

/-- The key of a record: account and optional doctype (R60). -/
structure Key where
  account : Nat
  doctype : Option Nat
  deriving DecidableEq, Repr

/-- Identification stages (2.2). -/
inductive Stage where
  | entering
  | reading
  | deciding
  | decided
  deriving DecidableEq, Repr

/-- Lookup states (2.2). -/
inductive LookupState where
  | none
  | queued
  | inProgress
  | done
  | withdrawn
  deriving DecidableEq, Repr

/-- Lookup sources (2.2). -/
inductive LookupSource where
  | hot
  | directory
  | range
  | default
  | doctype
  | service
  deriving DecidableEq, Repr

/-- The three lookup flags (2.2, R119). -/
structure LookupFlags where
  hotUndefined : Bool
  dirUndefined : Bool
  dirFallback : Bool
  deriving DecidableEq, Repr

/-- All flags clear. -/
def LookupFlags.clear : LookupFlags := ⟨false, false, false⟩

/-- Route states (2.2). -/
inductive RouteState where
  | unrouted
  | armed
  | fired
  | captured
  | runoutBound
  deriving DecidableEq, Repr

/-- Route reasons (R37). -/
inductive RouteReason where
  | cls
  | overflow
  | binFull
  | binAbsent
  | gateOut
  | late
  | lateFinal
  | gap
  | speed
  | captured
  | notReady
  deriving DecidableEq, Repr

/-- Final states (2.6). -/
inductive FinalState where
  | delivered
  | unconfirmed
  | arrived
  | lost
  | abandoned
  deriving DecidableEq, Repr

/-- An expectation window (8.2). -/
structure Window where
  opens : Position
  closes : Position
  deriving DecidableEq, Repr

/-- A piece record (2.2), with the position events the track and the route and gate unit have
scheduled for it (R26, R139). The window-close event is scheduled exactly while a window is held
(R158), at `window.closes`. -/
structure Piece where
  number : Nat
  lead : Position
  trail : Option Position
  length : Option Nat
  overlong : Bool
  slot : SlotId
  label : Nat
  notReady : Bool
  reports : Vector (Option Report) 4
  outcome : Option ReadOutcome
  key : Option Key
  stage : Stage
  lookup : LookupState
  cls : Option Nat
  source : Option LookupSource
  flags : LookupFlags
  route : RouteState
  gate : Option Gate
  /-- F. -/
  openAt : Option Position
  /-- Rl. -/
  releaseAt : Option Position
  reason : Option RouteReason
  window : Option Window
  forcedTrailAt : Option Position
  readCloseAt : Option Position
  lastChanceAt : Option Position
  fireAt : Option Position
  deriving DecidableEq, Repr

/-- A hold of a gate (R144). Its release event is scheduled at `releaseAt` while the hold stands. -/
structure Hold where
  lane : LaneId
  piece : Nat
  openAt : Position
  releaseAt : Position
  deriving DecidableEq, Repr

/-! ### The bin monitor (Chapter 8) -/

/-- The stored items of a bin 1 to 12 (8.1). The pending count and the outstanding list are views of
the track (R154, R158). -/
structure Bin where
  confirmed : Nat
  capacity : Nat
  nearFull : Nat
  out : Bool
  miss : Nat
  deriving DecidableEq, Repr

/-- Bin states (8.1.1). -/
inductive BinState where
  | out
  | full
  | nearFull
  | opened
  deriving DecidableEq, Repr

/-- The cold-reset values of a bin (8.1). -/
def Bin.cold : Bin := ⟨0, 500, 450, false, 0⟩

/-! ### The speed monitor (Chapter 9) -/

/-- Alert modes (R181). -/
inductive AlertMode where
  | off
  | level
  | latch
  | critOnly
  deriving DecidableEq, Repr

/-- The state of a lane's speed monitor. `window` is the length of the window in progress and
`nextWindow` the length last written, which applies from the next window start (R174). -/
structure SpeedMonitor where
  window : Nat
  nextWindow : Nat
  pulses : Nat
  figure : Nat
  lowLimit : Nat
  highLimit : Nat
  critLimit : Nat
  hysteresis : Nat
  low : Bool
  high : Bool
  crit : Bool
  mode : AlertMode
  latch : Bool
  /-- The SPEED ALERT output. -/
  line : Bool
  qualification : Nat
  deriving DecidableEq, Repr

/-- The cold-reset values of R186. -/
def SpeedMonitor.cold : SpeedMonitor where
  window := 16
  nextWindow := 16
  pulses := 0
  figure := 0
  lowLimit := 0
  highLimit := 16383
  critLimit := 16383
  hysteresis := 0
  low := false
  high := false
  crit := false
  mode := .level
  latch := false
  line := false
  qualification := 0

/-! ### A lane -/

/-- The lane counters 11 to 20 of R201. -/
structure LaneCounters where
  entriesStopped : BitVec 16
  flutters : BitVec 16
  discarded : BitVec 16
  garbled : BitVec 16
  replaced : BitVec 16
  late : BitVec 16
  orphan : BitVec 16
  overloads : BitVec 16
  binStrays : BitVec 16
  runoutStrays : BitVec 16
  deriving DecidableEq, Repr

/-- All lane counters at 0. -/
def LaneCounters.zero : LaneCounters := ⟨0, 0, 0, 0, 0, 0, 0, 0, 0, 0⟩

/-- One lane: lane unit, piece track, route and gate unit, bin monitor and speed monitor. -/
structure Lane where
  pos : Position
  constants : Constants
  lock : Bool
  state : LaneState
  /-- The RUN output. -/
  run : Bool
  /-- The start timer is running. -/
  startTimer : Bool
  /-- The drain timer is running. -/
  drainTimer : Bool
  lastCause : Option FaultCause
  /-- A JAM report waits for the other window closes at this position (R166). -/
  jamPending : Option Position
  nextPiece : Nat
  /-- Oldest record first. -/
  track : List Piece
  /-- Hold sets by gate, in the order of their fires (R145). -/
  holds : Vector (List Hold) 12
  /-- The GATE outputs. -/
  gateOut : Vector Bool 12
  bins : Vector Bin 12
  runoutConfirmed : Nat
  lostCount : Nat
  speed : SpeedMonitor
  counters : LaneCounters
  /-- The level of the ENTRY input. -/
  entryLine : Bool
  deriving DecidableEq, Repr

/-- A lane after a cold reset, with the level its ENTRY input stands at. -/
def Lane.cold (entry : Bool) : Lane where
  pos := 0
  constants := Constants.cold
  lock := false
  state := .stopped
  run := false
  startTimer := false
  drainTimer := false
  lastCause := none
  jamPending := none
  nextPiece := 1
  track := []
  holds := #v[[], [], [], [], [], [], [], [], [], [], [], []]
  gateOut := #v[false, false, false, false, false, false, false, false, false, false, false, false]
  bins := #v[.cold, .cold, .cold, .cold, .cold, .cold, .cold, .cold, .cold, .cold, .cold, .cold]
  runoutConfirmed := 0
  lostCount := 0
  speed := SpeedMonitor.cold
  counters := LaneCounters.zero
  entryLine := entry

/-! ### The plan store (Chapter 4) -/

/-- Check schemes (R65). -/
inductive CheckScheme where
  | none
  | mod10
  | mod11
  deriving DecidableEq, Repr

/-- A format entry (R65). -/
structure FormatEntry where
  number : Nat
  pfx : List Digit
  codeLength : Nat
  accountStart : Nat
  accountLength : Nat
  doctypeStart : Nat
  doctypeLength : Nat
  scheme : CheckScheme
  deriving DecidableEq, Repr

/-- A range entry (R66). -/
structure RangeEntry where
  low : Nat
  high : Nat
  cls : Nat
  deriving DecidableEq, Repr

/-- The bins of a class on one lane (R67). -/
structure LaneBins where
  primary : Nat
  overflow : Option Nat
  deriving DecidableEq, Repr

/-- A class entry (R67). -/
structure ClassEntry where
  defined : Bool
  bins0 : LaneBins
  bins1 : LaneBins
  deriving DecidableEq, Repr

/-- An undefined class: primary bin 0, overflow NONE on both lanes (R64). -/
def ClassEntry.undefined : ClassEntry := ⟨false, ⟨0, none⟩, ⟨0, none⟩⟩

/-- Doctype strengths (R68). -/
inductive Strength where
  | strong
  | weak
  deriving DecidableEq, Repr

/-- A doctype entry (R68). -/
structure DoctypeEntry where
  doctype : Nat
  cls : Nat
  strength : Strength
  deriving DecidableEq, Repr

/-- Service routing (R69). -/
inductive ServiceRouting where
  | builtIn
  | plan
  deriving DecidableEq, Repr

/-- Directory policy (R69). -/
inductive DirectoryPolicy where
  | fallback
  | fault
  deriving DecidableEq, Repr

/-- The settings of a slot (R69). -/
structure Settings where
  defaultClass : Nat
  serviceRouting : ServiceRouting
  directoryUse : Bool
  policy : DirectoryPolicy
  label : Nat
  deriving DecidableEq, Repr

/-- The initial values of R69. -/
def Settings.initial : Settings := ⟨8, .builtIn, false, .fallback, 0⟩

/-- Slot states (4.2). -/
inductive SlotState where
  | empty
  | loading
  | checking
  | ready
  | active
  | retiring
  deriving DecidableEq, Repr

/-- Table identifiers (R64). -/
inductive TableId where
  | format
  | range
  | cls
  | doctype
  | settings
  deriving DecidableEq, Repr

/-- Error kinds of the plan checker (R82). -/
inductive ErrorKind where
  | formatField
  | formatShadowed
  | rangeInverted
  | rangeOrder
  | classUndefined
  | doctypeDuplicate
  | serviceUndefined
  deriving DecidableEq, Repr

/-- The error a failed check reports: table, index and kind (R82). -/
structure CheckError where
  table : TableId
  index : Nat
  kind : ErrorKind
  deriving DecidableEq, Repr

/-- Last check outcomes (R87). -/
inductive CheckOutcome where
  | none
  | pass
  | fail (error : CheckError)
  | abandoned
  deriving DecidableEq, Repr

/-- A plan slot (R64). A list table holds exactly its entries in use, so its count is its length. -/
structure PlanSlot where
  state : SlotState
  refs : Nat
  formats : List FormatEntry
  formatsPtr : Nat
  ranges : List RangeEntry
  rangesPtr : Nat
  classes : Vector ClassEntry 64
  doctypes : List DoctypeEntry
  doctypesPtr : Nat
  settings : Settings
  lastCheck : CheckOutcome
  deriving DecidableEq, Repr

/-- A slot with the contents of an EMPTY slot (R64) in the given state. -/
def PlanSlot.fresh (st : SlotState) : PlanSlot where
  state := st
  refs := 0
  formats := []
  formatsPtr := 0
  ranges := []
  rangesPtr := 0
  classes := Vector.replicate 64 ClassEntry.undefined
  doctypes := []
  doctypesPtr := 0
  settings := Settings.initial
  lastCheck := .none

/-- The plan checker at work on a slot, and how long its check takes from PLAN CHECK (R79). -/
structure Checker where
  slot : SlotId
  microseconds : Nat
  deriving DecidableEq, Repr

/-! ### Hot list and directory port (Chapter 5) -/

/-- A hot-list entry (R93). -/
structure HotEntry where
  account : Nat
  cls : Nat
  deriving DecidableEq, Repr

/-- Port states (5.4). -/
inductive PortState where
  | idle
  | probing
  | yielding
  | held
  deriving DecidableEq, Repr

/-- A search in hand (R102). `stop` is the manual's high plus one, so that the span low to high is
empty when `stop ≤ low`. `word0` is word 0 of the probe in hand once it has been read. -/
structure Search where
  account : Nat
  base : Nat
  count : Nat
  waitLimit : Nat
  low : Nat
  stop : Nat
  word0 : Option DirWord
  deriving DecidableEq, Repr

/-- The directory port, its lines and its counts. -/
structure Directory where
  base : Nat
  count : Nat
  waitLimit : Nat
  port : PortState
  search : Option Search
  failed : Bool
  consecutive : Nat
  timeouts : Nat
  /-- The HOLD input. -/
  holdLine : Bool
  /-- The READY input. -/
  readyLine : Bool
  /-- The HOLD ACK output. -/
  holdAck : Bool
  /-- The WANTED output. -/
  wanted : Bool
  /-- The READ output, asserted while the port waits on a word read. -/
  readLine : Bool
  /-- The word address driven on the address lines during a word read. -/
  address : Option (BitVec 20)
  deriving DecidableEq, Repr

/-- The cold-reset values of R112, with the levels the HOLD and READY inputs stand at. -/
def Directory.cold (hold ready : Bool) : Directory where
  base := 0
  count := 0
  waitLimit := 20
  port := .idle
  search := none
  failed := false
  consecutive := 0
  timeouts := 0
  holdLine := hold
  readyLine := ready
  holdAck := false
  wanted := false
  readLine := false
  address := none

/-- The kinds of DIRECTORY notice (R111). -/
inductive DirectoryKind where
  | timeout
  | failed
  | holdGranted
  | holdReleased
  deriving DecidableEq, Repr

/-! ### The lookup queue and engine (Chapter 6) -/

/-- Who asked for a lookup (R113): a piece of a lane, or a QUERY by its tag. -/
inductive Requester where
  | piece (lane : LaneId) (number : Nat)
  | query (tag : Nat)
  deriving DecidableEq, Repr

/-- A lookup request (R113). -/
structure LookupRequest where
  requester : Requester
  account : Nat
  doctype : Option Nat
  slot : SlotId
  arrival : BitVec 16
  deriving DecidableEq, Repr

/-- Engine stages (R119). -/
inductive EngineStage where
  | hot
  | directory
  | range
  | default
  | doctype
  deriving DecidableEq, Repr

/-- The lookup in progress (R119). -/
structure Job where
  request : LookupRequest
  stage : EngineStage
  result : Option (Nat × LookupSource)
  flags : LookupFlags
  deriving DecidableEq, Repr

/-- The lookup queue, the arbiter and the engine. -/
structure LookupUnit where
  /-- Oldest request first. -/
  queue : List LookupRequest
  nextArrival : BitVec 16
  priority0 : Nat
  priority1 : Nat
  ageLimit : Nat
  passCount : Nat
  engine : Option Job
  deriving DecidableEq, Repr

/-- The cold-reset values of R129. -/
def LookupUnit.cold : LookupUnit := ⟨[], 0, 2, 2, 8, 0, none⟩

/-! ### The link unit (Chapter 10) -/

/-- Receiver states (10.2) with the bytes of the frame being received. -/
inductive Receiver where
  | hunt
  | sync
  | length (first : Option Byte)
  /-- The length, and the kind and body bytes gathered so far. -/
  | body (len : Nat) (got : Bytes)
  /-- The length, kind and body, and the first CRC byte once gathered. -/
  | check (len : Nat) (got : Bytes) (first : Option Byte)
  deriving DecidableEq, Repr

/-- A request in the request buffer (R192). -/
structure BufferedRequest where
  tag : Nat
  request : Request
  deriving DecidableEq, Repr

/-- Statuses (R196). -/
inductive Status where
  | done
  | replaced
  | busy
  | protected_
  | notOpen
  | inUse
  | notReady
  | capacity
  | badIndex
  | full
  | notFound
  | badValue
  | badLength
  | unknownRequest
  | locked
  | laneActive
  | noPlan
  | badConstants
  | draining
  | faulted
  | notFaulted
  deriving DecidableEq, Repr

/-- A response: tag and request code as received, status, and the result bytes (R196). -/
structure Response where
  tag : Nat
  code : Nat
  status : Status
  results : Bytes
  deriving DecidableEq, Repr

/-- The speed flags (R179). -/
inductive SpeedFlag where
  | low
  | high
  | crit
  deriving DecidableEq, Repr

/-- Notices with their items (10.9). The lost count is written when the transmission begins (R199). -/
inductive Notice where
  | laneState (lane : LaneId) (state : LaneState) (cause : NoticeCause)
  | speedFlag (lane : LaneId) (flag : SpeedFlag) (set : Bool) (figure : Nat)
  | binState (lane : LaneId) (bin : Gate) (state : BinState) (confirmed pending : Nat)
  | gateOut (lane : LaneId) (gate : Gate)
  /-- `none` is the run-out tray. -/
  | stray (lane : LaneId) (bin : Option Gate)
  /-- `none` is PASS. -/
  | planChecked (slot : SlotId) (error : Option CheckError)
  | planRetired (slot : SlotId)
  | directory (kind : DirectoryKind) (port : PortState) (failed : Bool) (consecutive timeouts : Nat)
  deriving DecidableEq, Repr

/-- A disposition: the content of R37. The bin is `none` for an UNROUTED record and `some 0` for
run-out. -/
structure Disposition where
  lane : LaneId
  number : Nat
  lead : Position
  length : Option Nat
  slot : SlotId
  label : Nat
  outcome : Option ReadOutcome
  key : Option Key
  cls : Option Nat
  source : Option LookupSource
  bin : Option Nat
  final : FinalState
  reason : Option RouteReason
  overlong : Bool
  notReady : Bool
  contested : Bool
  flags : LookupFlags
  fired : Bool
  withdrawn : Bool
  deriving DecidableEq, Repr

/-- The device counters 1 to 10 of R201. -/
structure DeviceCounters where
  crcErrors : BitVec 16
  lengthErrors : BitVec 16
  gapAbandons : BitVec 16
  unknownKinds : BitVec 16
  shortFrames : BitVec 16
  bufferOverflows : BitVec 16
  noticesLost : BitVec 16
  dispositionDiscards : BitVec 16
  noLaneReports : BitVec 16
  discardedResults : BitVec 16
  deriving DecidableEq, Repr

/-- All device counters at 0. -/
def DeviceCounters.zero : DeviceCounters := ⟨0, 0, 0, 0, 0, 0, 0, 0, 0, 0⟩

/-- The link unit. -/
structure Link where
  rx : Receiver
  /-- Oldest request first. -/
  buffer : List BufferedRequest
  responses : List Response
  /-- Places reserved for QUERYs (R193). -/
  reserved : Nat
  notices : List Notice
  lostNotices : Nat
  dispositions : List Disposition
  /-- The frame being transmitted, whole. -/
  tx : Option Bytes
  counters : DeviceCounters
  coldStart : Bool
  deriving DecidableEq, Repr

/-- The cold-reset values of R204. -/
def Link.cold : Link := ⟨.hunt, [], [], 0, [], 0, [], none, DeviceCounters.zero, true⟩

/-! ### The part -/

/-- The whole part, and the queue of commands waiting to be taken, first in first out. -/
structure State where
  lane0 : Lane
  lane1 : Lane
  slot0 : PlanSlot
  slot1 : PlanSlot
  checker : Option Checker
  /-- In ascending account order. -/
  hot : List HotEntry
  dir : Directory
  lookup : LookupUnit
  link : Link
  /-- The RESET input is asserted. -/
  resetLine : Bool
  pending : List Instr
  deriving DecidableEq, Repr

/-- The part with RESET just deasserted, every block at its cold-reset values, and the input lines
deasserted (R204, assumption log 3). -/
def State.reset : State where
  lane0 := Lane.cold false
  lane1 := Lane.cold false
  slot0 := PlanSlot.fresh .empty
  slot1 := PlanSlot.fresh .empty
  checker := none
  hot := []
  dir := Directory.cold false false
  lookup := LookupUnit.cold
  link := Link.cold
  resetLine := false
  pending := []

/-! ### Components by number -/

/-- The lane with the given number. -/
def State.lane (s : State) : LaneId → Lane
  | .lane0 => s.lane0
  | .lane1 => s.lane1

/-- The state with one lane replaced. -/
def State.setLane (s : State) (l : LaneId) (x : Lane) : State :=
  match l with
  | .lane0 => { s with lane0 := x }
  | .lane1 => { s with lane1 := x }

/-- The state with one lane updated. -/
def State.modLane (s : State) (l : LaneId) (f : Lane → Lane) : State := s.setLane l (f (s.lane l))

/-- The plan slot with the given number. -/
def State.slot (s : State) : SlotId → PlanSlot
  | .slot0 => s.slot0
  | .slot1 => s.slot1

/-- The state with one plan slot replaced. -/
def State.setSlot (s : State) (k : SlotId) (x : PlanSlot) : State :=
  match k with
  | .slot0 => { s with slot0 := x }
  | .slot1 => { s with slot1 := x }

/-- The state with one plan slot updated. -/
def State.modSlot (s : State) (k : SlotId) (f : PlanSlot → PlanSlot) : State :=
  s.setSlot k (f (s.slot k))

end Sys2Proof.Machine
end

