-- ==== Sys2Proof/Machine/Ops.lean ====
section
/-! DEFINITION. The shared operations: positions (R1), numbers of lanes, slots and gates, counters,
the outbound queues (R199), plan references (R85, R86) and the changes of the lane state (R10, R19). -/

namespace Sys2Proof.Machine

/-! ### Positions (R1) -/

/-- The forward distance from q to p, (p − q) mod 16,777,216 (R1). -/
def fwd (q p : Position) : Nat := (p - q).toNat

/-- p has reached q (R1). -/
def reached (q p : Position) : Bool := fwd q p ≤ 8388607

/-- p is past q (R1). -/
def past (q p : Position) : Bool := 1 ≤ fwd q p && fwd q p ≤ 8388607

/-- A position plus a distance, mod 16,777,216 (R1). -/
def ahead (p : Position) (d : Nat) : Position := p + BitVec.ofNat 24 d

/-- A position minus a distance, mod 16,777,216 (R1). -/
def behind (p : Position) (d : Nat) : Position := p - BitVec.ofNat 24 d

/-- A scheduled position event falls due when the lane position has reached it (R4). -/
def due (q : Option Position) (p : Position) : Bool :=
  match q with
  | none => false
  | some q => reached q p

/-! ### Numbers of the request fields (0.7) -/

/-- The lane a lane field names. -/
def laneOf : Nat → Option LaneId
  | 0 => some .lane0
  | 1 => some .lane1
  | _ => none

/-- The slot a slot field names. -/
def slotOf : Nat → Option SlotId
  | 0 => some .slot0
  | 1 => some .slot1
  | _ => none

/-- The number of a lane. -/
def laneNum : LaneId → Nat
  | .lane0 => 0
  | .lane1 => 1

/-- The number of a slot. -/
def slotNum : SlotId → Nat
  | .slot0 => 0
  | .slot1 => 1

/-- The other slot. -/
def otherSlot : SlotId → SlotId
  | .slot0 => .slot1
  | .slot1 => .slot0

/-- The number of a gate, 1 to 12. -/
def gateNum (g : Gate) : Nat := g.val + 1

/-- The gate with a number 1 to 12. -/
def gateOf (n : Nat) : Option Gate :=
  if h : 1 ≤ n ∧ n ≤ 12 then some ⟨n - 1, by omega⟩ else none

/-- The gates in belt order. -/
def allGates : List Gate := [0, 1, 2, 3, 4, 5, 6, 7, 8, 9, 10, 11]

/-- The gates 1 to G of a lane. -/
def Constants.gatesInUse (c : Constants) : List Gate :=
  allGates.filter (fun g => gateNum g ≤ c.gateCount)

/-- The constants of a gate. -/
def Constants.gate (c : Constants) (g : Gate) : GateConstants := c.gates[g.val]

/-- D[n] for a gate number n; 0 where n names no gate. -/
def Constants.distance (c : Constants) (n : Nat) : Nat :=
  match gateOf n with
  | some g => (c.gate g).distance
  | none => 0

/-! ### Counters (R201) -/

/-- Updates the lane counters. -/
def State.countLane (s : State) (l : LaneId) (f : LaneCounters → LaneCounters) : State :=
  s.modLane l (fun L => { L with counters := f L.counters })

/-- Updates the device counters. -/
def State.countDevice (s : State) (f : DeviceCounters → DeviceCounters) : State :=
  { s with link := { s.link with counters := f s.link.counters } }

/-! ### The outbound queues (R193, R199) -/

/-- A notice joins the notice queue, or is dropped and counted when 16 wait (R199). -/
def Link.raise (k : Link) (n : Notice) : Link :=
  if k.notices.length < Config.noticeCapacity then
    { k with notices := k.notices ++ [n] }
  else
    { k with
      lostNotices := min 255 (k.lostNotices + 1)
      counters := { k.counters with noticesLost := k.counters.noticesLost + 1 } }

/-- A disposition joins the disposition queue, or is dropped and counted when 64 wait (R199). -/
def Link.offer (k : Link) (d : Disposition) : Link :=
  if k.dispositions.length < Config.dispositionCapacity then
    { k with dispositions := k.dispositions ++ [d] }
  else
    { k with counters := { k.counters with dispositionDiscards := k.counters.dispositionDiscards + 1 } }

/-- The free places of the response queue (R193). -/
def Link.freePlaces (k : Link) : Nat := Config.responsePlaces - (k.responses.length + k.reserved)

/-- Raises a notice. -/
def State.raise (s : State) (n : Notice) : State := { s with link := s.link.raise n }

/-- Raises notices in order. -/
def State.raiseAll (s : State) (ns : List Notice) : State := ns.foldl State.raise s

/-- Offers a disposition. -/
def State.offer (s : State) (d : Disposition) : State := { s with link := s.link.offer d }

/-- Places a response at the tail of the response queue (R194). -/
def State.answer (s : State) (tag code : Nat) (status : Status) (results : Bytes) : State :=
  { s with link := { s.link with responses := s.link.responses ++ [⟨tag, code, status, results⟩] } }

/-! ### The plan store's references (R83, R85, R86) -/

/-- The slot whose state is ACTIVE (R70). -/
def State.activeSlot (s : State) : Option SlotId :=
  if s.slot0.state = .active then some .slot0
  else if s.slot1.state = .active then some .slot1
  else none

/-- One reference is taken on a slot (R83). -/
def State.takeRef (s : State) (k : SlotId) : State :=
  s.modSlot k (fun x => { x with refs := x.refs + 1 })

/-- One reference on a slot is released (R85). A RETIRING slot whose last reference goes becomes
READY, and PLAN RETIRED is raised (R86). -/
def State.releaseRef (s : State) (k : SlotId) : State :=
  if (s.slot k).state = .retiring ∧ (s.slot k).refs - 1 = 0 then
    (s.modSlot k (fun x => { x with refs := x.refs - 1, state := .ready })).raise (.planRetired k)
  else
    s.modSlot k (fun x => { x with refs := x.refs - 1 })

/-! ### The lane state (R10, R19) -/

/-- The lane states in which the run line is asserted (R10). -/
def LaneState.runs : LaneState → Bool
  | .stopped => false
  | .starting => true
  | .running => true
  | .draining => true
  | .faulted => false

/-- The lane enters a state: the run line follows (R10). -/
def Lane.enter (L : Lane) (st : LaneState) : Lane := { L with state := st, run := st.runs }

/-- The lane enters a state, and one LANE STATE notice is raised (R19). -/
def State.enterLane (s : State) (l : LaneId) (st : LaneState) (cause : NoticeCause) : State :=
  (s.modLane l (fun L => L.enter st)).raise (.laneState l st cause)

/-- Every hold of every gate is dropped with its release event, and every gate output is deasserted
(R14, R147, R152). -/
def Lane.dropHolds (L : Lane) : Lane :=
  { L with holds := Vector.replicate 12 [], gateOut := Vector.replicate 12 false }

/-! ### The track -/

/-- The record with a piece number. -/
def Lane.piece (L : Lane) (n : Nat) : Option Piece := L.track.find? (fun p => p.number = n)

/-- Updates the record with a piece number; the order of the track is kept. -/
def Lane.modPiece (L : Lane) (n : Nat) (f : Piece → Piece) : Lane :=
  { L with track := L.track.map (fun p => if p.number = n then f p else p) }

/-- Removes the record with a piece number; the records behind it keep their order (R36). -/
def Lane.removePiece (L : Lane) (n : Nat) : Lane :=
  { L with track := L.track.filter (fun p => p.number ≠ n) }

/-- Updates a record of a lane. -/
def State.modPiece (s : State) (l : LaneId) (n : Nat) (f : Piece → Piece) : State :=
  s.modLane l (fun L => L.modPiece n f)

end Sys2Proof.Machine
end

