-- ==== Sys2Proof/Machine/Flags.lean ====
section
/-! DEFINITION. What is derived from stored values: the bins' pending counts, lists and states
(R154, R155, R158), the speed flags (R178), the alert line (R181), the compensation speed (R134) and
the consistency test of a lane's constants (R8). -/

namespace Sys2Proof.Machine

/-! ### Bins -/

/-- The record is routed ARMED, FIRED or CAPTURED at the gate. -/
def Piece.routedAt (p : Piece) (g : Gate) : Bool :=
  p.gate = some g && (p.route = .armed || p.route = .fired || p.route = .captured)

/-- The outstanding list of a bin, in track order (R154, R158). -/
def Lane.outstanding (L : Lane) (g : Gate) : List Piece := L.track.filter (fun p => p.routedAt g)

/-- The pending count of a bin (R154). -/
def Lane.pendingAt (L : Lane) (g : Gate) : Nat := (L.outstanding g).length

/-- The run-out list, in track order (R158). -/
def Lane.runoutList (L : Lane) : List Piece := L.track.filter (fun p => p.route = .runoutBound)

/-- The stored items of a bin. -/
def Lane.bin (L : Lane) (g : Gate) : Bin := L.bins[g.val]

/-- Updates the stored items of a bin. -/
def Lane.modBin (L : Lane) (g : Gate) (f : Bin → Bin) : Lane :=
  { L with bins := L.bins.set g.val (f L.bins[g.val]) }

/-- A bin's state (8.1.1). -/
def Lane.binState (L : Lane) (g : Gate) : BinState :=
  let b := L.bin g
  if b.out then .out
  else if b.capacity ≤ b.confirmed + L.pendingAt g then .full
  else if b.nearFull ≤ b.confirmed + L.pendingAt g then .nearFull
  else .opened

/-- The BIN STATE notices of an event that took the lane from `before` to `after`: one for each bin
whose state changed into NEAR-FULL, FULL or OUT, in the given order of bins (R155). -/
def binNotices (l : LaneId) (before after : Lane) (order : List Gate) : List Notice :=
  order.filterMap (fun g =>
    if after.binState g ≠ before.binState g ∧ after.binState g ≠ .opened then
      some (.binState l g (after.binState g) (after.bin g).confirmed (after.pendingAt g))
    else none)

/-- The bin monitor derives the bins' states after an event and raises the notices of R155, in the
given order. -/
def State.deriveBinsIn (s : State) (l : LaneId) (before : Lane) (order : List Gate) : State :=
  s.raiseAll (binNotices l before (s.lane l) order)

/-- As `deriveBinsIn`, in ascending bin number. -/
def State.deriveBins (s : State) (l : LaneId) (before : Lane) : State :=
  s.deriveBinsIn l before allGates

/-- A bin is accepting (R132). -/
def Lane.accepting (L : Lane) (g : Gate) : Bool :=
  gateNum g ≤ L.constants.gateCount && !(L.bin g).out &&
    (L.bin g).confirmed + L.pendingAt g < (L.bin g).capacity

/-- The confirmed count rises by one and stops at 65,535 (R153). -/
def Bin.confirm (b : Bin) : Bin := { b with confirmed := min 65535 (b.confirmed + 1) }

/-! ### Speed -/

/-- The speed figure of a window of W ms that saw `delta` pulses (R175). -/
def speedFigure (delta w : Nat) : Nat := min Config.speedMax (delta * 16 / w)

/-- The LOW flag after a window end with figure S (R178). -/
def evalLow (flag : Bool) (limit hyst s : Nat) : Bool :=
  if flag then !(limit + hyst ≤ s) else s < limit

/-- The HIGH or CRIT flag after a window end with figure S (R178). The clearing threshold limit − Hy
is compared without clamping. -/
def evalHigh (flag : Bool) (limit hyst s : Nat) : Bool :=
  if flag then !(s + hyst ≤ limit) else limit < s

/-- The level of the SPEED ALERT line (R181). -/
def SpeedMonitor.alertLevel (m : SpeedMonitor) : Bool :=
  match m.mode with
  | .off => false
  | .level => m.low || m.high || m.crit
  | .latch => m.latch
  | .critOnly => m.crit

/-- The compensation speed Suse (R134). -/
def Lane.compensation (L : Lane) : Nat := max L.speed.figure L.constants.speedFloor

/-! ### The consistency test (R8) -/

/-- A failed condition of the consistency test: its order, the item code it names, and the gate it
names if any. -/
structure Inconsistency where
  condition : Nat
  item : Nat
  index : Option Nat
  deriving DecidableEq, Repr

/-- The lowest gate 2 to G whose distance does not exceed the one before it (R8, condition 2). -/
def Constants.unordered (c : Constants) : Option Nat :=
  ([2, 3, 4, 5, 6, 7, 8, 9, 10, 11, 12].filter (fun g => g ≤ c.gateCount)).find?
    (fun g => !(c.distance (g - 1) < c.distance g))

/-- The largest offset of heads 0 to head count − 1; 0 with no heads (R8). -/
def Constants.largestOffset (c : Constants) : Nat := (c.headOffset.toList.take c.headCount).foldl max 0

/-- The condition of R8 that fails first, or none when the test passes. -/
def Constants.inconsistency (c : Constants) : Option Inconsistency :=
  if c.gateCount < 1 then some ⟨1, 1, none⟩
  else match c.unordered with
    | some g => some ⟨2, 2, some g⟩
    | none =>
      if c.runoutDistance ≤ c.distance c.gateCount then some ⟨3, 6, none⟩
      else if c.lengthMax < c.lengthMin then some ⟨4, 13, none⟩
      else if c.readClose < c.lengthMax then some ⟨5, 11, none⟩
      else if c.readClose < c.largestOffset + c.halfWindow then some ⟨6, 11, none⟩
      else if c.distance 1 ≤ c.readClose + c.guardMargin then some ⟨7, 11, none⟩
      else none

end Sys2Proof.Machine
end

