-- ==== Sys2Proof/Machine/Encoding.lean ====
section
/-! DEFINITION. The outbound byte layouts: fields by type (R197), enumerated codes, the frame with its
CRC (R188), and the bodies of responses, notices and dispositions (10.9). -/

namespace Sys2Proof.Machine

/-! ### Fields (R197) -/

/-- A number in `n` bytes, most significant byte first (R188). -/
def be : Nat → Nat → Bytes
  | 0, _ => []
  | n + 1, v => BitVec.ofNat 8 (v / 256 ^ n) :: be n v

/-- A one-byte field. -/
def u8 (v : Nat) : Bytes := be 1 v
/-- A two-byte field. -/
def u16 (v : Nat) : Bytes := be 2 v
/-- A three-byte field. -/
def u24 (v : Nat) : Bytes := be 3 v
/-- A piece number. -/
def u32 (v : Nat) : Bytes := be 4 v
/-- An account. -/
def u40 (v : Nat) : Bytes := be 5 v
/-- A set-or-clear item (R197). -/
def bit (b : Bool) : Bytes := u8 (if b then 1 else 0)
/-- A position. -/
def posField (p : Position) : Bytes := u24 p.toNat

/-- A field of `n` bytes that may be absent: NONE is all ones (R197). -/
def optField (n : Nat) (v : Option Nat) : Bytes := be n (v.getD (256 ^ n - 1))

/-- A position that may be absent. -/
def optPos (p : Option Position) : Bytes := optField 3 (p.map BitVec.toNat)

/-- A digit string: a count byte, then the characters 30h to 39h (R197). -/
def digitString (ds : List Digit) : Bytes :=
  u8 ds.length ++ ds.map (fun d => BitVec.ofNat 8 (0x30 + d.val))

/-- A digit string that may be absent: count 0 (R197). -/
def optDigits (ds : Option (List Digit)) : Bytes := digitString (ds.getD [])

/-! ### Enumerated codes (R197): from 1 upward in the order of the owning rule, 0 for NONE -/

/-- Lane states in the order of 1.4. -/
def LaneState.code : LaneState → Nat
  | .stopped => 1 | .starting => 2 | .running => 3 | .draining => 4 | .faulted => 5

/-- Fault causes in the order of R17's table. -/
def FaultCause.code : FaultCause → Nat
  | .abort => 1 | .startTimeout => 2 | .drainTimeout => 3 | .trackFull => 4 | .jam => 5

/-- Causes of a LANE STATE notice (10.9). -/
def NoticeCause.code : NoticeCause → Nat
  | .run => 1 | .qualified => 2 | .startTimeout => 3 | .stop => 4 | .drained => 5
  | .drainTimeout => 6 | .abort => 7 | .trackFull => 8 | .jam => 9 | .clear => 10

/-- Read outcomes in the order of 2.2. -/
def ReadOutcome.code : ReadOutcome → Nat
  | .resolved _ _ _ => 1 | .noread => 2 | .multi => 3 | .checkfail => 4 | .noformat => 5

/-- Stages in the order of 2.2. -/
def Stage.code : Stage → Nat
  | .entering => 1 | .reading => 2 | .deciding => 3 | .decided => 4

/-- Lookup states in the order of 2.2, NONE as 0. -/
def LookupState.code : LookupState → Nat
  | .none => 0 | .queued => 1 | .inProgress => 2 | .done => 3 | .withdrawn => 4

/-- Lookup sources in the order of 2.2. -/
def LookupSource.code : LookupSource → Nat
  | .hot => 1 | .directory => 2 | .range => 3 | .default => 4 | .doctype => 5 | .service => 6

/-- Route states in the order of 2.2. -/
def RouteState.code : RouteState → Nat
  | .unrouted => 1 | .armed => 2 | .fired => 3 | .captured => 4 | .runoutBound => 5

/-- Route reasons in the order of R37. -/
def RouteReason.code : RouteReason → Nat
  | .cls => 1 | .overflow => 2 | .binFull => 3 | .binAbsent => 4 | .gateOut => 5 | .late => 6
  | .lateFinal => 7 | .gap => 8 | .speed => 9 | .captured => 10 | .notReady => 11

/-- Final states in the order of 2.6. -/
def FinalState.code : FinalState → Nat
  | .delivered => 1 | .unconfirmed => 2 | .arrived => 3 | .lost => 4 | .abandoned => 5

/-- Slot states in the order of 4.2. -/
def SlotState.code : SlotState → Nat
  | .empty => 1 | .loading => 2 | .checking => 3 | .ready => 4 | .active => 5 | .retiring => 6

/-- Table identifiers (R64). -/
def TableId.code : TableId → Nat
  | .format => 1 | .range => 2 | .cls => 3 | .doctype => 4 | .settings => 5

/-- Error kinds in the order of R82's table. -/
def ErrorKind.code : ErrorKind → Nat
  | .formatField => 1 | .formatShadowed => 2 | .rangeInverted => 3 | .rangeOrder => 4
  | .classUndefined => 5 | .doctypeDuplicate => 6 | .serviceUndefined => 7

/-- Check outcomes in the order of R87, NONE as 0. -/
def CheckOutcome.code : CheckOutcome → Nat
  | .none => 0 | .pass => 1 | .fail _ => 2 | .abandoned => 3

/-- Check schemes (R198). -/
def CheckScheme.code : CheckScheme → Nat
  | .none => 1 | .mod10 => 2 | .mod11 => 3

/-- Strengths (R198). -/
def Strength.code : Strength → Nat
  | .strong => 1 | .weak => 2

/-- Service routing (R198). -/
def ServiceRouting.code : ServiceRouting → Nat
  | .builtIn => 1 | .plan => 2

/-- Directory policy (R198). -/
def DirectoryPolicy.code : DirectoryPolicy → Nat
  | .fallback => 1 | .fault => 2

/-- Directory use, OFF 1 and ON 2 (R198). -/
def useCode (on : Bool) : Nat := if on then 2 else 1

/-- Port states in the order of 5.4. -/
def PortState.code : PortState → Nat
  | .idle => 1 | .probing => 2 | .yielding => 3 | .held => 4

/-- Kinds of DIRECTORY notice in the order of R111. -/
def DirectoryKind.code : DirectoryKind → Nat
  | .timeout => 1 | .failed => 2 | .holdGranted => 3 | .holdReleased => 4

/-- Engine stages in the order of R119. -/
def EngineStage.code : EngineStage → Nat
  | .hot => 1 | .directory => 2 | .range => 3 | .default => 4 | .doctype => 5

/-- Bin states in the order of 8.1.1. -/
def BinState.code : BinState → Nat
  | .out => 1 | .full => 2 | .nearFull => 3 | .opened => 4

/-- Alert modes (R198). -/
def AlertMode.code : AlertMode → Nat
  | .off => 1 | .level => 2 | .latch => 3 | .critOnly => 4

/-- Flags of a SPEED FLAG notice (10.9). -/
def SpeedFlag.code : SpeedFlag → Nat
  | .low => 1 | .high => 2 | .crit => 3

/-- Statuses (R196). -/
def Status.code : Status → Nat
  | .done => 0x00 | .replaced => 0x01 | .busy => 0x02 | .protected_ => 0x03 | .notOpen => 0x04
  | .inUse => 0x05 | .notReady => 0x06 | .capacity => 0x07 | .badIndex => 0x08 | .full => 0x09
  | .notFound => 0x0A | .badValue => 0x0B | .badLength => 0x0C | .unknownRequest => 0x0D
  | .locked => 0x0E | .laneActive => 0x0F | .noPlan => 0x10 | .badConstants => 0x11
  | .draining => 0x12 | .faulted => 0x13 | .notFaulted => 0x14

/-! ### The frame (R188) -/

/-- One bit step of the CRC: polynomial 1021h, most significant bit first. -/
def crcShift (c : BitVec 16) : BitVec 16 :=
  if c.msb then (c <<< 1) ^^^ 0x1021#16 else c <<< 1

/-- One byte enters the CRC. -/
def crcByte (c : BitVec 16) (b : Byte) : BitVec 16 :=
  crcShift (crcShift (crcShift (crcShift (crcShift (crcShift (crcShift (crcShift
    (c ^^^ (b.setWidth 16 <<< 8)))))))))

/-- The CRC-16 of a run of bytes, initial value FFFFh, no reflection and no final inversion. -/
def crc16 (bs : Bytes) : BitVec 16 := bs.foldl crcByte 0xFFFF#16

/-- The bytes the CRC covers: length, kind and body. -/
def crcCover (content : Bytes) : Bytes := u16 content.length ++ content

/-- A frame around its kind byte and body. -/
def frame (content : Bytes) : Bytes :=
  [0xA5#8, 0x5A#8] ++ crcCover content ++ u16 (crc16 (crcCover content)).toNat

/-- The time a frame takes to send, 5 µs a byte (R187). -/
def frameMicroseconds (f : Bytes) : Nat := 5 * f.length

/-! ### Response, notice and disposition bodies (10.9) -/

/-- The kind byte and body of a RESPONSE frame. -/
def Response.content (r : Response) : Bytes :=
  u8 0x41 ++ u16 r.tag ++ u8 r.code ++ u8 r.status.code ++ r.results

/-- The notice kind code (10.9). -/
def Notice.kind : Notice → Nat
  | .laneState .. => 1 | .speedFlag .. => 2 | .binState .. => 3 | .gateOut .. => 4 | .stray .. => 5
  | .planChecked .. => 6 | .planRetired .. => 7 | .directory .. => 8

/-- The table, index and error kind of a check error, or NONE for each (R82, R197). -/
def checkErrorFields : Option CheckError → Bytes
  | none => u8 0 ++ optField 2 none ++ u8 0
  | some e => u8 e.table.code ++ u16 e.index ++ u8 e.kind.code

/-- The items of a notice after its lost count (10.9). The consecutive timeout count of a DIRECTORY
notice is a count in a notice and takes two bytes by R197 (assumption log 28). -/
def Notice.items : Notice → Bytes
  | .laneState l st c => u8 (laneNum l) ++ u8 st.code ++ u8 c.code
  | .speedFlag l f set s => u8 (laneNum l) ++ u8 f.code ++ bit set ++ u16 s
  | .binState l g st c p => u8 (laneNum l) ++ u8 (gateNum g) ++ u8 st.code ++ u16 c ++ u16 p
  | .gateOut l g => u8 (laneNum l) ++ u8 (gateNum g)
  | .stray l b => u8 (laneNum l) ++ u8 ((b.map gateNum).getD 0)
  | .planChecked k e => u8 (slotNum k) ++ u8 (if e.isNone then 1 else 2) ++ checkErrorFields e
  | .planRetired k => u8 (slotNum k)
  | .directory k p f c t => u8 k.code ++ u8 p.code ++ bit f ++ u16 c ++ u16 t

/-- The kind byte and body of a NOTICE frame with its lost count (R199). -/
def Notice.content (n : Notice) (lost : Nat) : Bytes := u8 0x51 ++ u8 n.kind ++ u8 lost ++ n.items

/-- The code string of a read outcome. -/
def ReadOutcome.codeString : ReadOutcome → Option (List Digit)
  | .resolved c _ _ => some c
  | _ => none

/-- The format number of a read outcome. -/
def ReadOutcome.formatNumber : ReadOutcome → Option Nat
  | .resolved _ f _ => some f
  | _ => none

/-- The contested flag of a read outcome. -/
def ReadOutcome.contested : ReadOutcome → Bool
  | .resolved _ _ c => c
  | _ => false

/-- The flags byte of a disposition, OVERLONG in bit 0 to WITHDRAWN in bit 7 (R37, R197). -/
def Disposition.flagsByte (d : Disposition) : Nat :=
  d.overlong.toNat + 2 * d.notReady.toNat + 4 * d.contested.toNat + 8 * d.flags.hotUndefined.toNat +
    16 * d.flags.dirUndefined.toNat + 32 * d.flags.dirFallback.toNat + 64 * d.fired.toNat +
    128 * d.withdrawn.toNat

/-- The kind byte and body of a DISPOSITION frame (10.9). -/
def Disposition.content (d : Disposition) : Bytes :=
  u8 0x31 ++ u8 (laneNum d.lane) ++ u32 d.number ++ posField d.lead ++ optField 2 d.length ++
    u8 (slotNum d.slot) ++ u16 d.label ++ u8 ((d.outcome.map ReadOutcome.code).getD 0) ++
    optField 1 (d.outcome.bind ReadOutcome.formatNumber) ++ optField 5 (d.key.map Key.account) ++
    optField 2 (d.key.bind Key.doctype) ++ optField 1 d.cls ++
    u8 ((d.source.map LookupSource.code).getD 0) ++ optField 1 d.bin ++ u8 d.final.code ++
    u8 ((d.reason.map RouteReason.code).getD 0) ++ u8 d.flagsByte ++
    optDigits (d.outcome.bind ReadOutcome.codeString)

/-- The disposition of a record finalized in a final state (R37). -/
def Disposition.of (l : LaneId) (p : Piece) (final : FinalState) : Disposition where
  lane := l
  number := p.number
  lead := p.lead
  length := p.length
  slot := p.slot
  label := p.label
  outcome := p.outcome
  key := p.key
  cls := p.cls
  source := p.source
  bin := match p.route with
    | .unrouted => none
    | .runoutBound => some 0
    | _ => p.gate.map gateNum
  final := final
  reason := p.reason
  overlong := p.overlong
  notReady := p.notReady
  contested := (p.outcome.map ReadOutcome.contested).getD false
  flags := p.flags
  fired := p.route = .fired
  withdrawn := p.lookup = .withdrawn

/-! ### The transmitter (R200) -/

/-- An idle transmitter takes the oldest response, else the oldest notice with the lost count, else
the oldest disposition (R199, R200). -/
def Link.transmit (k : Link) : Link :=
  match k.tx with
  | some _ => k
  | none =>
    match k.responses with
    | r :: rs => { k with tx := some (frame r.content), responses := rs }
    | [] =>
      match k.notices with
      | n :: ns => { k with tx := some (frame (n.content k.lostNotices)), notices := ns, lostNotices := 0 }
      | [] =>
        match k.dispositions with
        | d :: ds => { k with tx := some (frame d.content), dispositions := ds }
        | [] => k

/-- The end of an event: an idle transmitter takes a frame. -/
def State.transmit (s : State) : State := { s with link := s.link.transmit }

end Sys2Proof.Machine
end

