-- ==== Sys2Proof/Machine/Reading.lean ====
section
/-! DEFINITION. The read resolver (Chapter 3): association of scan reports with records, format
matching, check digits, the vote, the key and the service classes at read close. -/

namespace Sys2Proof.Machine

/-! ### Formats and check digits (R53 to R57) -/

/-- A format matches a string (R53). -/
def FormatEntry.fits (f : FormatEntry) (str : List Digit) : Bool :=
  str.length = f.codeLength && str.take f.pfx.length = f.pfx

/-- The format a string takes: the first of the table that matches (R53). -/
def formatFor (fs : List FormatEntry) (str : List Digit) : Option FormatEntry :=
  fs.find? (fun f => f.fits str)

/-- The weighted sum of MOD10-31 over the data digits from the rightmost leftward: weights 3, 1, 3, 1,
and so on (R55). -/
def sum31 : List Digit → Nat → Nat
  | [], _ => 0
  | d :: ds, w => d.val * w + sum31 ds (4 - w)

/-- The weighted sum of MOD11-27 over the data digits from the rightmost leftward: weights 2 to 7,
then 2 again (R56). -/
def sum27 : List Digit → Nat → Nat
  | [], _ => 0
  | d :: ds, w => d.val * w + sum27 ds (if w = 7 then 2 else w + 1)

/-- The computed check of a scheme for the data digits; none where every check digit passes (R55 to
R57). -/
def computedCheck (scheme : CheckScheme) (data : List Digit) : Option Nat :=
  match scheme with
  | .none => none
  | .mod10 => some ((10 - sum31 data.reverse 3 % 10) % 10)
  | .mod11 => some ((11 - sum27 data.reverse 2 % 11) % 11)

/-- The string passes its format's check (R54). -/
def checkPasses (scheme : CheckScheme) (str : List Digit) : Bool :=
  match computedCheck scheme str.dropLast with
  | none => true
  | some c => (str.getLast?.map Fin.val) = some c

/-- What one GOOD string turns out to be (R53, R54). -/
inductive ReadClass where
  | valid (format : FormatEntry)
  | checkfail
  | noformat
  deriving DecidableEq, Repr

/-- Matches a GOOD string and verifies its check digit. -/
def readClass (fs : List FormatEntry) (str : List Digit) : ReadClass :=
  match formatFor fs str with
  | none => .noformat
  | some f => if checkPasses f.scheme str then .valid f else .checkfail

/-- The string is a valid read (R54). -/
def isValidRead (fs : List FormatEntry) (str : List Digit) : Bool :=
  match readClass fs str with
  | .valid _ => true
  | _ => false

/-! ### The vote (R58, R59) -/

/-- The size of a string's group (R58). -/
def groupSize (reads : List (List Digit)) (str : List Digit) : Nat :=
  (reads.filter (fun x => x = str)).length

/-- The string whose group is larger than every other group (R58). -/
def winner (reads : List (List Digit)) : Option (List Digit) :=
  reads.find? (fun a => reads.all (fun b => b = a || groupSize reads b < groupSize reads a))

/-- The outcome of a non-empty list of valid reads (R58). -/
def vote (fs : List FormatEntry) (reads : List (List Digit)) : ReadOutcome :=
  match winner reads with
  | none => .multi
  | some w => .resolved w ((formatFor fs w).map FormatEntry.number |>.getD 0) (reads.any (fun b => b ≠ w))

/-- The GOOD strings of a record's report slots, in head order. -/
def goodStrings (reports : Vector (Option Report) 4) : List (List Digit) :=
  reports.toList.filterMap (fun r => r.bind Report.digits)

/-- The read outcome of a record (R58, R59). -/
def readOutcome (fs : List FormatEntry) (reports : Vector (Option Report) 4) : ReadOutcome :=
  let strings := goodStrings reports
  let valid := strings.filter (isValidRead fs)
  if valid ≠ [] then vote fs valid
  else if strings.any (fun x => readClass fs x = .checkfail) then .checkfail
  else if strings ≠ [] then .noformat
  else .noread

/-! ### The key (R60) -/

/-- A run of digits read as a decimal number. -/
def digitsValue (ds : List Digit) : Nat := ds.foldl (fun n d => 10 * n + d.val) 0

/-- The digits of a field that starts at a 1-based position (R60). -/
def fieldDigits (str : List Digit) (start len : Nat) : List Digit := (str.drop (start - 1)).take len

/-- The key a format takes from a string (R60). -/
def keyOf (f : FormatEntry) (str : List Digit) : Key where
  account := digitsValue (fieldDigits str f.accountStart f.accountLength)
  doctype :=
    if f.doctypeLength = 0 then none
    else some (digitsValue (fieldDigits str f.doctypeStart f.doctypeLength))

/-- The key of a read outcome: present for RESOLVED alone (R60). -/
def outcomeKey (fs : List FormatEntry) : ReadOutcome → Option Key
  | .resolved code _ _ => (formatFor fs code).map (fun f => keyOf f code)
  | _ => none

/-! ### Resolution (R52, R61) -/

/-- The service class of a record whose outcome has been written, by the precedence of R61. -/
def serviceClass (overlong notReady : Bool) (outcome : ReadOutcome) : Option Nat :=
  if overlong then some 7
  else if notReady then some 6
  else match outcome with
    | .noread => some 0
    | .multi => some 1
    | .checkfail => some 2
    | .noformat => some 3
    | .resolved _ _ _ => none

/-- The resolver writes the read outcome and the key of a record (R52). -/
def Piece.resolve (p : Piece) (fs : List FormatEntry) : Piece :=
  let o := readOutcome fs p.reports
  { p with outcome := some o, key := outcomeKey fs o }

/-! ### Scan reports (R44 to R49) -/

/-- A character 30h to 39h as a digit. -/
def digitOf (b : Byte) : Option Digit :=
  if h : 0x30 ≤ b.toNat ∧ b.toNat ≤ 0x39 then some ⟨b.toNat - 0x30, by omega⟩ else none

/-- The digit string of a well-formed GOOD report: 1 to 32 decimal digits (R46). -/
def goodDigits (cs : Bytes) : Option (List Digit) :=
  if 1 ≤ cs.length ∧ cs.length ≤ 32 then cs.mapM digitOf else none

/-- The difference between a stamp and an expected stamp (R47). -/
def stampDifference (s e : Position) : Nat := min (fwd e s) (fwd s e)

/-- The candidate of a report: the record whose expected stamp differs least from the stamp, the
older of two at the same difference, provided the difference is A or less (R47). -/
def Lane.candidate (L : Lane) (offset : Nat) (stamp : Position) : Option Piece :=
  let better (best : Option Piece) (p : Piece) : Option Piece :=
    if stampDifference stamp (ahead p.lead offset) ≤ L.constants.halfWindow then
      match best with
      | none => some p
      | some b =>
        if stampDifference stamp (ahead p.lead offset) < stampDifference stamp (ahead b.lead offset) then
          some p
        else some b
    else best
  L.track.foldl better none

/-- The report is placed in slot h of the candidate, or discarded as late or as an orphan (R48,
R49). -/
def Lane.placeReport (L : Lane) (h : HeadId) (r : Report) : Lane :=
  match L.candidate (L.constants.headOffset[h.val]) r.stamp with
  | none => { L with counters := { L.counters with orphan := L.counters.orphan + 1 } }
  | some p =>
    if p.stage = .entering ∨ p.stage = .reading then
      let L' := L.modPiece p.number (fun q => { q with reports := q.reports.set h.val (some r) })
      if (p.reports[h.val]).isSome then
        { L' with counters := { L'.counters with replaced := L'.counters.replaced + 1 } }
      else L'
    else { L with counters := { L.counters with late := L.counters.late + 1 } }

/-- A scan report examined in the order of R45, R46 and R47. -/
def Lane.scanReport (L : Lane) (head : Nat) (stamp : Position) (result : Nat) (chars : Bytes) : Lane :=
  let discard : Lane := { L with counters := { L.counters with discarded := L.counters.discarded + 1 } }
  if L.state = .stopped ∨ L.state = .faulted then discard
  else if h : head < 4 ∧ head < L.constants.headCount then
    if result = 1 then
      match goodDigits chars with
      | some ds => L.placeReport ⟨head, h.1⟩ ⟨stamp, some ds⟩
      | none =>
        { L with counters := { L.counters with garbled := L.counters.garbled + 1 } }.placeReport
          ⟨head, h.1⟩ ⟨stamp, none⟩
    else if result = 2 then L.placeReport ⟨head, h.1⟩ ⟨stamp, none⟩
    else
      { L with counters := { L.counters with garbled := L.counters.garbled + 1 } }.placeReport
        ⟨head, h.1⟩ ⟨stamp, none⟩
  else discard

end Sys2Proof.Machine
end

