-- ==== Sys2Proof/Machine/Routing.lean ====
section
/-! DEFINITION. The route and gate unit (Chapter 7): bin choice, the open position, the gap check,
arming, run-out, the capture check, and the plan store's class entries at routing (R88). -/

namespace Sys2Proof.Machine

/-! ### The class entry (R67, R88) -/

/-- The class entry of a class number; an undefined one beyond 63. -/
def PlanSlot.classEntry (k : PlanSlot) (c : Nat) : ClassEntry :=
  if h : c < 64 then k.classes[c] else ClassEntry.undefined

/-- The class is defined in the slot (R67). -/
def PlanSlot.classDefined (k : PlanSlot) (c : Nat) : Bool := (k.classEntry c).defined

/-- The bins of a class entry on a lane. -/
def ClassEntry.bins (e : ClassEntry) : LaneId → LaneBins
  | .lane0 => e.bins0
  | .lane1 => e.bins1

/-- The bins the plan gives a class on a lane: bin 0 alone for a service class under BUILT-IN
routing, else the class table's (R88). -/
def PlanSlot.routeBins (k : PlanSlot) (c : Nat) (l : LaneId) : LaneBins :=
  if c ≤ 7 ∧ k.settings.serviceRouting = .builtIn then ⟨0, none⟩ else (k.classEntry c).bins l

/-! ### Bin choice (R131) -/

/-- The result of bin choice: the run-out tray, or a gate, with the reason. -/
inductive BinChoice where
  | runout (reason : RouteReason)
  | gate (g : Gate) (reason : RouteReason)
  deriving DecidableEq, Repr

/-- The gate of a bin number when that bin is accepting (R132). -/
def Lane.acceptingGate (L : Lane) (n : Nat) : Option Gate :=
  match gateOf n with
  | some g => if L.accepting g then some g else none
  | none => none

/-- Bin choice for a primary and an overflow bin (R131). -/
def Lane.chooseBin (L : Lane) (b : LaneBins) (notReady : Bool) : BinChoice :=
  if b.primary = 0 then .runout (if notReady then .notReady else .cls)
  else match L.acceptingGate b.primary with
    | some g => .gate g .cls
    | none =>
      match b.overflow.bind L.acceptingGate with
      | some g => .gate g .overflow
      | none =>
        if L.constants.gateCount < b.primary ∧ b.overflow.all (fun o => L.constants.gateCount < o) then
          .runout .binAbsent
        else .runout .binFull

/-! ### Positions (R134, R135, R137) -/

/-- The lead counts lc of a gate at a compensation speed: the ceiling of L × Suse ÷ 16,000 (R134). -/
def leadCounts (leadTime suse : Nat) : Nat := (leadTime * suse + 15999) / 16000

/-- The trail, or the provisional trail lead + Lmax while it is absent (2.2, R137). -/
def Lane.trailOf (L : Lane) (p : Piece) : Position := p.trail.getD (ahead p.lead L.constants.lengthMax)

/-- F of a record at a gate (R135). -/
def Lane.openPosition (L : Lane) (p : Piece) (g : Gate) : Position :=
  behind (ahead p.lead (L.constants.gate g).distance)
    (leadCounts (L.constants.gate g).leadTime L.compensation)

/-- Rl of a record at a gate (R135). -/
def Lane.releasePosition (L : Lane) (p : Piece) (g : Gate) : Position :=
  ahead (ahead (L.trailOf p) (L.constants.gate g).distance) (L.constants.gate g).dwell

/-- The expectation window of a record at a gate (R135). -/
def Lane.gateWindow (L : Lane) (p : Piece) (g : Gate) : Window where
  opens := ahead p.lead (L.constants.gate g).distance
  closes := ahead (ahead (L.trailOf p) (L.constants.gate g).distance) (L.constants.gate g).confirm

/-- The run-out window of a record (R140). -/
def Lane.runoutWindowOf (L : Lane) (p : Piece) : Window where
  opens := ahead p.lead L.constants.runoutDistance
  closes := ahead (ahead (L.trailOf p) L.constants.runoutDistance) L.constants.runoutWindow

/-- An open span, from `f` included to `r` excluded, and a passage, from `a` to `b` both included,
intersect when the start of either lies in the other (R137). -/
def spanMeetsPassage (f r a b : Position) : Bool := fwd a f ≤ fwd a b || fwd f a < fwd f r

/-- The open span from f to r intersects the record's passage at gate g (R137). -/
def Lane.sweeps (L : Lane) (f r : Position) (q : Piece) (g : Gate) : Bool :=
  spanMeetsPassage f r (ahead q.lead (L.constants.gate g).distance)
    (ahead (L.trailOf q) (L.constants.gate g).distance)

/-! ### The gap check (R138) -/

/-- The record's body would reach gate g: it is not routed at g itself, nor at a gate below g, unless
it is CAPTURED at a gate below g that is out of service (R138). -/
def Lane.bodyReaches (L : Lane) (q : Piece) (g : Gate) : Bool :=
  match q.gate with
  | none => true
  | some g' =>
    !(q.routedAt g') || g.val < g'.val ||
      (g'.val < g.val && q.route = .captured && (L.bin g').out)

/-- Another record would be swept in by opening gate g for the record (R138). -/
def Lane.gapConflict (L : Lane) (p : Piece) (g : Gate) : Bool :=
  L.track.any (fun q => q.number ≠ p.number && L.bodyReaches q g &&
    L.sweeps (L.openPosition p g) (L.releasePosition p g) q g)

/-! ### Arming, run-out and capture (R139, R140, R142) -/

/-- The record becomes RUNOUT-BOUND with a reason and takes the run-out window (R140). -/
def Lane.sendToRunout (L : Lane) (reason : RouteReason) (p : Piece) : Piece :=
  { p with
    route := .runoutBound
    gate := none
    openAt := none
    releaseAt := none
    fireAt := none
    reason := some reason
    window := some (L.runoutWindowOf p) }

/-- The record is armed at a gate (R139). -/
def Lane.arm (L : Lane) (g : Gate) (reason : RouteReason) (p : Piece) : Piece :=
  { p with
    route := .armed
    gate := some g
    openAt := some (L.openPosition p g)
    releaseAt := some (L.releasePosition p g)
    fireAt := some (L.openPosition p g)
    reason := some reason
    window := some (L.gateWindow p g) }

/-- The record is captured at a gate (R142). -/
def Lane.capture (L : Lane) (g : Gate) (p : Piece) : Piece :=
  { p with
    route := .captured
    gate := some g
    openAt := none
    releaseAt := none
    fireAt := none
    reason := some .captured
    window := some (L.gateWindow p g) }

/-- Routing of a record with a class, by the steps of R130. -/
def Lane.routePiece (L : Lane) (bins : LaneBins) (p : Piece) : Piece :=
  match L.chooseBin bins p.notReady with
  | .runout reason => L.sendToRunout reason p
  | .gate g reason =>
    if L.speed.crit then L.sendToRunout .speed p
    else if reached (behind (L.openPosition p g) L.constants.guardMargin) L.pos then
      L.sendToRunout .late p
    else if L.gapConflict p g then L.sendToRunout .gap p
    else L.arm g reason p

/-! ### The capture check (R141) -/

/-- An ARMED record's open span, or a standing hold, at gate g intersects the record's passage. -/
def Lane.captures (L : Lane) (g : Gate) (c : Piece) : Bool :=
  L.track.any (fun q => q.route = .armed && q.gate = some g &&
      match q.openAt, q.releaseAt with
      | some f, some r => L.sweeps f r c g
      | _, _ => false) ||
    (L.holds[g.val]).any (fun h => L.sweeps h.openAt h.releaseAt c g)

/-- The first of the given gates that captures the record (R141). -/
def Lane.capturingGate (L : Lane) (gates : List Gate) (c : Piece) : Option Gate :=
  gates.find? (fun g => L.captures g c)

/-- The capture check at a record's trail, for an UNROUTED record over gates 1 to G (R141). -/
def Lane.captureAtTrail (L : Lane) (p : Piece) : Piece :=
  if p.route = .unrouted then
    match L.capturingGate L.constants.gatesInUse p with
    | some g => L.capture g p
    | none => p
  else p

/-- The re-routing of a record ARMED at a gate that goes out of service (R148). -/
def Lane.reroutePiece (L : Lane) (g : Gate) (p : Piece) : Piece :=
  match L.capturingGate (L.constants.gatesInUse.filter (fun g' => g.val < g'.val)) p with
  | some g' => L.capture g' p
  | none => L.sendToRunout .gateOut p

/-- Every record ARMED at a gate is re-routed, from the oldest (R148). -/
def Lane.rerouteAll (L : Lane) (g : Gate) : Lane :=
  (L.track.filter (fun p => p.route = .armed && p.gate = some g)).foldl
    (fun L' p => L'.modPiece p.number (L'.reroutePiece g)) L

end Sys2Proof.Machine
end

