-- ==== Sys2Proof/Machine/Queue.lean ====
section
/-! DEFINITION. The lookup queue and its arbiter (6.1, 6.2): joining, granting and withdrawal. -/

namespace Sys2Proof.Machine

/-- The arbiter's priority of a request: its lane's, or 0 for a QUERY (R117). -/
def LookupUnit.priority (u : LookupUnit) (r : LookupRequest) : Nat :=
  match r.requester with
  | .piece .lane0 _ => u.priority0
  | .piece .lane1 _ => u.priority1
  | .query _ => 0

/-- The highest priority waiting. -/
def LookupUnit.topPriority (u : LookupUnit) : Nat := (u.queue.map u.priority).foldl max 0

/-- The place in the queue of the request the arbiter chooses (R117): the oldest when aging applies,
else the oldest of the highest priority. -/
def LookupUnit.choice (u : LookupUnit) : Nat :=
  if 1 ≤ u.ageLimit ∧ u.ageLimit ≤ u.passCount then 0
  else u.queue.findIdx (fun r => u.priority r = u.topPriority)

/-- The pass count after a grant of the request at place `i` that leaves `rest` waiting (R117). -/
def LookupUnit.passAfter (u : LookupUnit) (i : Nat) (rest : List LookupRequest) : Nat :=
  if rest = [] ∨ u.ageLimit = 0 ∨ i = 0 then 0 else min 255 (u.passCount + 1)

/-- The unit after a grant of the request `r` at place `i`: the engine begins its HOT stage (R116,
R119). -/
def LookupUnit.granted (u : LookupUnit) (i : Nat) (r : LookupRequest) : LookupUnit :=
  { u with
    queue := u.queue.eraseIdx i
    passCount := u.passAfter i (u.queue.eraseIdx i)
    engine := some ⟨r, .hot, none, .clear⟩ }

/-- The arbiter makes a grant when the engine is free and a request waits (R116). The record of a
granted lane request takes the lookup state IN PROGRESS. -/
def State.grant (s : State) : State :=
  match s.lookup.engine, s.lookup.queue[s.lookup.choice]? with
  | none, some r =>
    let s' := { s with lookup := s.lookup.granted s.lookup.choice r }
    match r.requester with
    | .piece l n => s'.modPiece l n (fun p => { p with lookup := .inProgress })
    | .query _ => s'
  | _, _ => s

/-- A request joins the tail of the queue with the next arrival number (R113). -/
def LookupUnit.join (u : LookupUnit) (who : Requester) (account : Nat) (doctype : Option Nat)
    (slot : SlotId) : LookupUnit :=
  { u with
    queue := u.queue ++ [⟨who, account, doctype, slot, u.nextArrival⟩]
    nextArrival := u.nextArrival + 1 }

/-- A lane request leaves the queue by withdrawal. If it was the oldest, the pass count becomes 0
(R117, R126). -/
def LookupUnit.withdraw (u : LookupUnit) (l : LaneId) (n : Nat) : LookupUnit :=
  { u with
    queue := u.queue.filter (fun r => r.requester ≠ .piece l n)
    passCount := if (u.queue.head?.map LookupRequest.requester) = some (.piece l n) then 0 else u.passCount }

/-- A queued record's request is withdrawn, and the record becomes WITHDRAWN and DECIDED without a
class and releases its plan reference (R34, R126). -/
def State.withdrawDecided (s : State) (l : LaneId) (p : Piece) : State :=
  ({ s with lookup := s.lookup.withdraw l p.number }.modPiece l p.number
    (fun q => { q with lookup := .withdrawn, stage := .decided })).releaseRef p.slot

/-- The piece numbers of a lane's queued requests, in queue order. -/
def LookupUnit.queuedOf (u : LookupUnit) (l : LaneId) : List Nat :=
  u.queue.filterMap (fun r =>
    match r.requester with
    | .piece l' n => if l' = l then some n else none
    | .query _ => none)

/-- The request of one of a lane's pieces is withdrawn (R126). A request whose record is not on the
track, which R113 rules out, only leaves the queue. -/
def State.withdrawPiece (s : State) (l : LaneId) (n : Nat) : State :=
  match (s.lane l).piece n with
  | some p => s.withdrawDecided l p
  | none => { s with lookup := s.lookup.withdraw l n }

/-- Every queued request of a lane is withdrawn, in queue order (R126). -/
def State.withdrawLane (s : State) (l : LaneId) : State :=
  (s.lookup.queuedOf l).foldl (fun s n => s.withdrawPiece l n) s

end Sys2Proof.Machine
end

