-- ==== Sys2Proof/Machine/Lanes.lean ====
section
/-! DEFINITION. What several blocks do together on a lane: entry into FAULTED (R17), the end of a
drain (R14), finalization (R36), the deferred JAM report (R166), a record becoming DECIDED (R34), the
trail of a record (R30, R31) and a gate going out of service (R162). -/

namespace Sys2Proof.Machine

/-! ### FAULTED -/

/-- The notice cause of a fault cause (10.9). -/
def FaultCause.notice : FaultCause → NoticeCause
  | .abort => .abort
  | .startTimeout => .startTimeout
  | .drainTimeout => .drainTimeout
  | .trackFull => .trackFull
  | .jam => .jam

/-- The lane unit and the route and gate unit on entering FAULTED (R17, R147). -/
def Lane.fault (L : Lane) (c : FaultCause) : Lane :=
  ({ L with
    lastCause := some c
    startTimer := false
    drainTimer := false
    jamPending := none }.enter .faulted).dropHolds

/-- The lane enters FAULTED: the lane unit acts, the lane's queued lookups are withdrawn, and the LANE
STATE notice is raised (R17, R126). -/
def State.enterFaulted (s : State) (l : LaneId) (c : FaultCause) : State :=
  ((s.modLane l (fun L => L.fault c)).withdrawLane l).raise (.laneState l .faulted c.notice)

/-- A fault report of a lane's block (R16). -/
def State.faultReport (s : State) (l : LaneId) (c : FaultCause) : State :=
  match (s.lane l).state with
  | .starting => s.enterFaulted l c
  | .running => s.enterFaulted l c
  | .draining => s.enterFaulted l c
  | .stopped => s
  | .faulted => s

/-! ### The end of a drain -/

/-- The track reports to the lane unit when it is empty. In DRAINING the lane enters STOPPED and every
hold is dropped (R14, R38); in every other state the report changes nothing. -/
def State.reportEmpty (s : State) (l : LaneId) : State :=
  if (s.lane l).track = [] ∧ (s.lane l).state = .draining then
    (s.modLane l (fun L => { L with drainTimer := false }.dropHolds)).enterLane l .stopped .drained
  else s

/-! ### JAM -/

/-- Another window-close event of the lane falls at this position (R166). -/
def Lane.closesAt (L : Lane) (q : Position) : Bool :=
  L.track.any (fun p => (p.window.map Window.closes) = some q)

/-- The lane unit takes a waiting JAM report once no other window close falls at its position
(R166). -/
def State.settleJam (s : State) (l : LaneId) : State :=
  match (s.lane l).jamPending with
  | none => s
  | some q =>
    if (s.lane l).closesAt q then s
    else (s.modLane l (fun L => { L with jamPending := none })).faultReport l .jam

/-! ### Finalization (R36) -/

/-- The record as its disposition reports it: a request withdrawn by the finalization leaves the
lookup state WITHDRAWN (R126). -/
def Piece.atFinalization (p : Piece) : Piece :=
  if p.lookup = .queued then { p with lookup := .withdrawn } else p

/-- The track finalizes a record: it leaves the track, releases its reference unless it is DECIDED or
its lookup is in progress, has a queued request withdrawn, and offers its disposition (R36). -/
def State.finalize (s : State) (l : LaneId) (p : Piece) (final : FinalState) : State :=
  let s1 := s.modLane l (fun L => L.removePiece p.number)
  let s2 := if p.stage ≠ .decided ∧ p.lookup ≠ .inProgress then s1.releaseRef p.slot else s1
  let s3 := if p.lookup = .queued then { s2 with lookup := s2.lookup.withdraw l p.number } else s2
  s3.offer (Disposition.of l p.atFinalization final)

/-! ### DECIDED (R34, R130) -/

/-- The record is routed in the event that decides it: it has a class, is UNROUTED, and its lane is
not FAULTED (R34, R130). -/
def Lane.decidePiece (L : Lane) (slot : PlanSlot) (l : LaneId) (n : Nat) : Lane :=
  match L.piece n with
  | none => L
  | some p =>
    let L' := L.modPiece n (fun q => { q with stage := .decided })
    match p.cls with
    | none => L'
    | some c =>
      if p.route = .unrouted ∧ L.state ≠ .faulted then
        L'.modPiece n (L'.routePiece (slot.routeBins c l))
      else L'

/-- A record becomes DECIDED with the class written in it: it is routed, the bins' states are derived
against the lane before the event, and its plan reference is released last (R34, R85, R155). -/
def State.decidePiece (s : State) (l : LaneId) (n : Nat) (before : Lane) : State :=
  match (s.lane l).piece n with
  | none => s
  | some p =>
    ((s.modLane l (fun L => L.decidePiece (s.slot p.slot) l n)).deriveBins l before).releaseRef p.slot

/-- A record takes a service class with source SERVICE and becomes DECIDED (R32, R33). -/
def State.decideService (s : State) (l : LaneId) (n c : Nat) (before : Lane) : State :=
  (s.modPiece l n (fun p => { p with cls := some c, source := some .service })).decidePiece l n before

/-! ### The trail (R30, R31) -/

/-- The trail is set at the trailing edge: the record becomes READING and the capture check runs
(R30). -/
def Lane.setTrail (L : Lane) (p : Piece) : Lane :=
  let q := { p with
    trail := some L.pos
    length := some (fwd p.lead L.pos)
    stage := .reading
    forcedTrailAt := none }
  let L' := L.modPiece p.number (fun _ => q)
  L'.modPiece p.number L'.captureAtTrail

/-- The forced trail is set at lead + Lmax with the overlong flag, and the capture check runs
(R31). -/
def Lane.forceTrail (L : Lane) (p : Piece) : Lane :=
  let q := { p with
    trail := some (ahead p.lead L.constants.lengthMax)
    length := some L.constants.lengthMax
    overlong := true
    stage := .reading
    forcedTrailAt := none }
  let L' := L.modPiece p.number (fun _ => q)
  L'.modPiece p.number L'.captureAtTrail

/-! ### A gate out of service (R162) -/

/-- Gate g goes out of service: the mark is set, GATE OUT is raised, and the records ARMED at g are
re-routed (R162). The bins' states are derived at the end of the event, g first. -/
def State.takeGateOut (s : State) (l : LaneId) (g : Gate) : State :=
  ((s.modLane l (fun L => L.modBin g (fun b => { b with out := true }))).raise (.gateOut l g)).modLane l
    (fun L => L.rerouteAll g)

/-- The order in which bin states are derived when gate g has gone out of service (R162). -/
def binsFrom (g : Gate) : List Gate := g :: allGates.filter (fun g' => g' ≠ g)

end Sys2Proof.Machine
end

