-- ==== Sys2Proof/Machine/Engine.lean ====
section
/-! DEFINITION. The lookup engine's stages (6.3) and the delivery of results (6.4), with the start of
a directory search by the directory port (R102, R105). -/

namespace Sys2Proof.Machine

/-! ### Delivery (R124, R125) -/

/-- A lookup result is written into its record (R124). -/
def Piece.withResult (p : Piece) (job : Job) : Piece :=
  { p with
    cls := job.result.map Prod.fst
    source := job.result.map Prod.snd
    flags := job.flags
    lookup := .done }

/-- The results of a QUERY's response (R125). -/
def queryResults (job : Job) : Bytes :=
  u8 (slotNum job.request.slot) ++ u40 job.request.account ++ optField 2 job.request.doctype ++
    optField 1 (job.result.map Prod.fst) ++
    u8 ((job.result.map (fun r => r.2.code)).getD 0) ++
    bit job.flags.hotUndefined ++ bit job.flags.dirUndefined ++ bit job.flags.dirFallback

/-- The result of an ended lookup is delivered to its record, discarded when the record is gone, or
answered to its QUERY (R124, R125). -/
def State.deliver (s : State) (job : Job) : State :=
  match job.request.requester with
  | .piece l n =>
    match (s.lane l).piece n with
    | some _ => (s.modPiece l n (fun p => p.withResult job)).decidePiece l n (s.lane l)
    | none =>
      (s.countDevice (fun c => { c with discardedResults := c.discardedResults + 1 })).releaseRef
        job.request.slot
  | .query tag =>
    (({ s with link := { s.link with reserved := s.link.reserved - 1 } }).answer tag 0x50 .done
      (queryResults job)).releaseRef job.request.slot

/-- The lookup ends: its result is delivered, the engine becomes free, and the arbiter may grant
(R116, R119). -/
def State.endLookup (s : State) (job : Job) : State :=
  { s.deliver job with lookup := { (s.deliver job).lookup with engine := none } }.grant

/-- The engine stands in a stage of the lookup. -/
def State.setJob (s : State) (job : Job) : State :=
  { s with lookup := { s.lookup with engine := some job } }

/-! ### The DIRECTORY stage (R121) -/

/-- The results of a search (R109). -/
inductive SearchResult where
  | found (cls : Nat)
  | notFound
  | timeout
  | unavailable
  deriving DecidableEq, Repr

/-- The DIRECTORY stage completes with a result of the port (R121). -/
def State.directoryResult (s : State) (job : Job) (r : SearchResult) : State :=
  let onRange (flags : LookupFlags) : State := s.setJob { job with stage := .range, flags := flags }
  let failing : State :=
    match (s.slot job.request.slot).settings.policy with
    | .fallback => onRange { job.flags with dirFallback := true }
    | .fault => s.endLookup { job with result := some (4, .service) }
  match r with
  | .found c =>
    if 8 ≤ c ∧ c ≤ 63 ∧ (s.slot job.request.slot).classDefined c = true then
      s.setJob { job with stage := .doctype, result := some (c, .directory) }
    else onRange { job.flags with dirUndefined := true }
  | .notFound => onRange job.flags
  | .timeout => failing
  | .unavailable => failing

/-- The word address of a probe's word read: base + 2·mid, or one more once word 0 has been read
(R102). -/
def Search.wordAddress (q : Search) : Nat :=
  q.base + 2 * ((q.low + (q.stop - 1)) / 2) + (if q.word0.isSome then 1 else 0)

/-- A word read begins: the address is driven and READ asserted (R103). -/
def Directory.startRead (d : Directory) (q : Search) : Directory :=
  { d with search := some q, readLine := true, address := some (BitVec.ofNat 20 q.wordAddress) }

/-- A search for an account begins with the base, N and wait limit in force (R102). -/
def Directory.startSearch (d : Directory) (account : Nat) : Directory :=
  { d with port := .probing }.startRead ⟨account, d.base, d.count, d.waitLimit, 0, d.count, none⟩

/-- The engine asks the port for a search (R105). The port cannot be PROBING or YIELDING then; in
those states the request is left standing. -/
def State.askDirectory (s : State) (job : Job) : State :=
  match s.dir.port with
  | .idle =>
    if s.dir.failed then s.directoryResult job .unavailable
    else { s.setJob { job with stage := .directory } with dir := s.dir.startSearch job.request.account }
  | .held => ({ s with dir := { s.dir with wanted := true } }).directoryResult job .unavailable
  | .probing => s.setJob { job with stage := .directory }
  | .yielding => s.setJob { job with stage := .directory }

/-- The lookup goes on past HOT with no result: to DIRECTORY when the slot uses it and N is above 0,
else to RANGE (R119). -/
def State.afterHot (s : State) (job : Job) : State :=
  if (s.slot job.request.slot).settings.directoryUse = true ∧ 0 < s.dir.count then s.askDirectory job
  else s.setJob { job with stage := .range }

/-! ### HOT, RANGE, DEFAULT and DOCTYPE (R120, R122, R123) -/

/-- The class the hot list holds for an account (R98). -/
def hotClass (hot : List HotEntry) (account : Nat) : Option Nat :=
  (hot.find? (fun e => e.account = account)).map HotEntry.cls

/-- The HOT stage completes (R120). -/
def State.hotStage (s : State) (job : Job) : State :=
  match hotClass s.hot job.request.account with
  | some c =>
    if (s.slot job.request.slot).classDefined c then s.endLookup { job with result := some (c, .hot) }
    else s.afterHot { job with flags := { job.flags with hotUndefined := true } }
  | none => s.afterHot job

/-- The search of a range table by halving over positions low to stop − 1 (R122), with as many
halvings as the table has entries. -/
def rangeSearch (t : List RangeEntry) (account : Nat) : Nat → Nat → Nat → Option RangeEntry
  | 0, _, _ => none
  | fuel + 1, low, stop =>
    if stop ≤ low then none
    else
      match t[(low + (stop - 1)) / 2]? with
      | none => none
      | some e =>
        if account < e.low then rangeSearch t account fuel low ((low + (stop - 1)) / 2)
        else if e.high < account then rangeSearch t account fuel ((low + (stop - 1)) / 2 + 1) stop
        else some e

/-- The entry of a range table that covers an account (R122). -/
def rangeFor (t : List RangeEntry) (account : Nat) : Option RangeEntry :=
  rangeSearch t account t.length 0 t.length

/-- The RANGE stage completes (R122). -/
def State.rangeStage (s : State) (job : Job) : State :=
  match rangeFor (s.slot job.request.slot).ranges job.request.account with
  | some e => s.setJob { job with stage := .doctype, result := some (e.cls, .range) }
  | none => s.setJob { job with stage := .default }

/-- The DEFAULT stage completes (R122). -/
def State.defaultStage (s : State) (job : Job) : State :=
  s.setJob { job with
    stage := .doctype
    result := some ((s.slot job.request.slot).settings.defaultClass, .default) }

/-- The result after the DOCTYPE stage (R123). -/
def doctypeResult (t : List DoctypeEntry) (doctype : Option Nat)
    (result : Option (Nat × LookupSource)) : Option (Nat × LookupSource) :=
  match doctype.bind (fun d => t.find? (fun e => e.doctype = d)) with
  | none => result
  | some e =>
    match e.strength with
    | .strong => some (e.cls, .doctype)
    | .weak => if result.map Prod.snd = some .default then some (e.cls, .doctype) else result

/-- The DOCTYPE stage completes and the lookup ends (R123). -/
def State.doctypeStage (s : State) (job : Job) : State :=
  s.endLookup { job with
    result := doctypeResult (s.slot job.request.slot).doctypes job.request.doctype job.result }

/-- The time a stage takes from its beginning, in µs; the DIRECTORY stage ends with its search
(R119). -/
def EngineStage.microseconds : EngineStage → Option Nat
  | .hot => some 1
  | .directory => none
  | .range => some 2
  | .default => some 1
  | .doctype => some 1

end Sys2Proof.Machine
end

