-- ==== Sys2Proof/Machine/Port.lean ====
section
/-! DEFINITION. The directory port's events (5.3, 5.4): the assertion and deassertion of READY, the
timeout of a word read, the end of a search, and the hold lines. -/

namespace Sys2Proof.Machine

/-- A DIRECTORY notice with the port's state, flag and counts as they stand (R111). -/
def Directory.notice (d : Directory) (k : DirectoryKind) : Notice :=
  .directory k d.port d.failed d.consecutive d.timeouts

/-- Raises a DIRECTORY notice of a kind. -/
def State.raiseDirectory (s : State) (k : DirectoryKind) : State := s.raise (s.dir.notice k)

/-- The port after a search has ended: HELD when the search was yielded and HOLD still stands, with
WANTED asserted for an UNAVAILABLE result, else IDLE (R102, R107). -/
def Directory.afterSearch (d : Directory) (unavailable : Bool) : Directory :=
  let d' := { d with search := none, readLine := false, address := none }
  if d.port = .yielding ∧ d.holdLine = true then
    { d' with port := .held, holdAck := true, wanted := unavailable }
  else { d' with port := .idle }

/-- The result of an ended search is handed to the engine's lookup (R109). -/
def State.handResult (s : State) (r : SearchResult) : State :=
  match s.lookup.engine with
  | some job => if job.stage = .directory then s.directoryResult job r else s
  | none => s

/-- The hold notice of R107, when the search's end has granted a hold. -/
def State.holdNotice (s : State) (granted : Bool) : State :=
  if granted then s.raiseDirectory .holdGranted else s

/-- A search ends without a timeout: the port leaves it, the result is handed over, and a granted
hold is reported (R107, R109). -/
def State.endSearch (s : State) (r : SearchResult) : State :=
  let s1 := { s with dir := s.dir.afterSearch (decide (r = SearchResult.unavailable)) }
  (s1.handResult r).holdNotice (decide (s1.dir.port = PortState.held))

/-- The counts and the failed flag after a timeout (R104). -/
def Directory.countTimeout (d : Directory) : Directory :=
  { d with
    consecutive := min 2 (d.consecutive + 1)
    timeouts := min 65535 (d.timeouts + 1)
    failed := d.failed || 2 ≤ d.consecutive + 1 }

/-- A word read times out: the search ends TIMEOUT, the timeout is counted and reported, FAILED is
reported when the count reaches 2, and the result is handed over (R104, R107). -/
def State.searchTimeout (s : State) : State :=
  let s1 := { s with dir := s.dir.countTimeout.afterSearch false }
  let s2 := s1.raiseDirectory .timeout
  let s3 := if 2 ≤ s.dir.consecutive + 1 then s2.raiseDirectory .failed else s2
  (s3.handResult .timeout).holdNotice (decide (s1.dir.port = PortState.held))

/-- The account of an entry (R100). -/
def entryAccount (w0 w1 : DirWord) : Nat := (w1.extractLsb' 0 8 ++ w0).toNat

/-- The class of an entry (R100). -/
def entryClass (w1 : DirWord) : Nat := (w1.extractLsb' 8 6).toNat

/-- A probe of entry mid is complete with its two words (R102, R104, R107). -/
def State.probeComplete (s : State) (q : Search) (w0 w1 : DirWord) : State :=
  let s' := { s with dir := { s.dir with consecutive := 0 } }
  let mid := (q.low + (q.stop - 1)) / 2
  if s.dir.port = .yielding then s'.endSearch .unavailable
  else if entryAccount w0 w1 = q.account then s'.endSearch (.found (entryClass w1))
  else
    let q' :=
      if q.account < entryAccount w0 w1 then { q with stop := mid, word0 := none }
      else { q with low := mid + 1, word0 := none }
    if q'.stop ≤ q'.low then s'.endSearch .notFound
    else { s' with dir := s'.dir.startRead q' }

/-- A word is taken from the data lines during the wait (R103). -/
def State.wordRead (s : State) (w : DirWord) : State :=
  match s.dir.search with
  | none => s
  | some q =>
    match q.word0 with
    | none => { s with dir := s.dir.startRead { q with word0 := some w } }
    | some w0 => s.probeComplete q w0 w

/-- READY is asserted with a word on the data lines. It completes the read under way; READY already
asserted is no assertion, and READY outside a wait is ignored (R103). -/
def State.readyRises (s : State) (w : DirWord) : State :=
  if s.dir.readyLine then s
  else
    let s' := { s with dir := { s.dir with readyLine := true } }
    if s.dir.readLine then s'.wordRead w else s'

/-- The wait of a word read reaches its limit (R103, R104). -/
def State.readTimesOut (s : State) : State :=
  if s.dir.readLine then s.searchTimeout else s

/-- HOLD is asserted (R106). -/
def State.holdRises (s : State) : State :=
  let s' := { s with dir := { s.dir with holdLine := true } }
  match s.dir.port with
  | .idle => { s' with dir := { s'.dir with port := .held, holdAck := true } }.raiseDirectory .holdGranted
  | .probing => { s' with dir := { s'.dir with port := .yielding } }
  | .yielding => s'
  | .held => s'

/-- HOLD is deasserted (R108). -/
def State.holdFalls (s : State) : State :=
  let s' := { s with dir := { s.dir with holdLine := false } }
  match s.dir.port with
  | .held =>
    { s' with dir := { s'.dir with port := .idle, holdAck := false, wanted := false } }.raiseDirectory
      .holdReleased
  | .idle => s'
  | .probing => s'
  | .yielding => s'

/-- The port takes its state from the HOLD line as it stands (R112). -/
def Directory.fromHold (d : Directory) : Directory :=
  if d.holdLine then { d with port := .held, holdAck := true }
  else { d with port := .idle, holdAck := false }

/-- The port at a warm reset (R112). -/
def Directory.warm (d : Directory) : Directory :=
  { d with
    search := none
    failed := false
    consecutive := 0
    timeouts := 0
    wanted := false
    readLine := false
    address := none }.fromHold

end Sys2Proof.Machine
end

