-- ==== Sys2Proof/Machine/Transport.lean ====
section
/-! DEFINITION. What the transport lines, the position events and the timers do (Chapters 1, 2, 7, 8
and 9), as changes of the state within one event. -/

namespace Sys2Proof.Machine

/-! ### Encoder and entry (R3, R26 to R31) -/

/-- A pulse: the position count advances, and the window pulse count rises and stops at 1,048,575
(R3, R174). -/
def Lane.pulse (L : Lane) : Lane :=
  { L with
    pos := L.pos + 1
    speed := { L.speed with pulses := min Config.pulseMax (L.speed.pulses + 1) } }

/-- The next piece number after `n` (R24). -/
def nextNumber (n : Nat) : Nat := if n = 4294967295 then 1 else n + 1

/-- The record a leading edge opens, stamped with a slot and its label (R25, R26). -/
def Lane.newPiece (L : Lane) (k : SlotId) (label : Nat) : Piece where
  number := L.nextPiece
  lead := L.pos
  trail := none
  length := none
  overlong := false
  slot := k
  label := label
  notReady := L.state = .starting || L.state = .draining
  reports := #v[none, none, none, none]
  outcome := none
  key := none
  stage := .entering
  lookup := .none
  cls := none
  source := none
  flags := .clear
  route := .unrouted
  gate := none
  openAt := none
  releaseAt := none
  reason := none
  window := none
  forcedTrailAt := some (ahead L.pos L.constants.lengthMax)
  readCloseAt := some (ahead L.pos L.constants.readClose)
  lastChanceAt :=
    some (behind (ahead L.pos (L.constants.distance L.constants.gateCount)) L.constants.guardMargin)
  fireAt := none

/-- The record joins the tail of the track, and the next piece number advances (R24, R26). -/
def Lane.openPiece (L : Lane) (p : Piece) : Lane :=
  { L with track := L.track ++ [p], nextPiece := nextNumber L.nextPiece }

/-- The lane takes letters at the entry photocell (R26). -/
def LaneState.takes : LaneState → Bool
  | .starting => true
  | .running => true
  | .draining => true
  | .stopped => false
  | .faulted => false

/-- A leading edge with a slot ACTIVE: the edge is counted on a lane that takes no letters (R21), it
reports TRACK FULL with 64 records on the track (R27), and it opens a record otherwise (R26). -/
def State.leadingEdge (s : State) (l : LaneId) (k : SlotId) : State :=
  if (s.lane l).state.takes then
    if Config.trackCapacity ≤ (s.lane l).track.length then s.faultReport l .trackFull
    else
      (s.modLane l (fun L => L.openPiece (L.newPiece k (s.slot k).settings.label))).takeRef k
  else s.countLane l (fun c => { c with entriesStopped := c.entriesStopped + 1 })

/-- The record whose stage is ENTERING (R28). -/
def Lane.entering (L : Lane) : Option Piece := L.track.find? (fun p => p.stage = .entering)

/-- A trailing edge: nothing in FAULTED or with no ENTERING record, a flutter removal below Lmin, the
setting of the trail otherwise (R28, R29, R30). -/
def State.trailingEdge (s : State) (l : LaneId) : State :=
  if (s.lane l).state = .faulted then s
  else match (s.lane l).entering with
    | none => s
    | some p =>
      if fwd p.lead (s.lane l).pos < (s.lane l).constants.lengthMin then
        ((((s.modLane l (fun L => L.removePiece p.number)).releaseRef p.slot).countLane l
          (fun c => { c with flutters := c.flutters + 1 })).reportEmpty l)
      else (s.modLane l (fun L => L.setTrail p)).deriveBins l (s.lane l)

/-- The forced-trail event of a record (R31). -/
def State.forcedTrail (s : State) (l : LaneId) (n : Nat) : State :=
  if (s.lane l).state = .faulted then s
  else match (s.lane l).piece n with
    | none => s
    | some p =>
      if due p.forcedTrailAt (s.lane l).pos then
        if p.stage = .entering then
          (s.modLane l (fun L => L.forceTrail p)).deriveBins l (s.lane l)
        else s.modPiece l n (fun q => { q with forcedTrailAt := none })
      else s

/-! ### Read close and last chance (R32 to R35) -/

/-- The record at read close: a record still ENTERING takes the forced trail first, and the event is
taken off the record's schedule (R32). -/
def Lane.closeRead (L : Lane) (p : Piece) : Lane :=
  (if p.stage = .entering then L.forceTrail p else L).modPiece p.number
    (fun q => { q with readCloseAt := none })

/-- The track offers a lookup request for a record's key (R33, R114): it joins the queue and the
arbiter may grant it, or the record takes class 5 when the queue is full. -/
def State.offerLookup (s : State) (l : LaneId) (p : Piece) (key : Key) (before : Lane) : State :=
  if s.lookup.queue.length < Config.lookupCapacity then
    (({ s with lookup := s.lookup.join (.piece l p.number) key.account key.doctype p.slot }.modPiece l
      p.number (fun q => { q with lookup := .queued, stage := .deciding })).grant).deriveBins l before
  else
    (s.countLane l (fun c => { c with overloads := c.overloads + 1 })).decideService l p.number 5 before

/-- The read-close event of a record (R32, R33, R52, R61). A RESOLVED outcome always carries its key
(R60), so the last case, which leaves a record without a class, does not arise. -/
def State.readClose (s : State) (l : LaneId) (n : Nat) : State :=
  if (s.lane l).state = .faulted then s
  else match (s.lane l).piece n with
    | none => s
    | some p =>
      if due p.readCloseAt (s.lane l).pos then
        let fs := (s.slot p.slot).formats
        let s1 := (s.modLane l (fun L => L.closeRead p)).modPiece l n (fun q => q.resolve fs)
        match (s1.lane l).piece n with
        | none => s1
        | some q =>
          match serviceClass q.overlong q.notReady (q.outcome.getD .noread), q.key with
          | some c, _ => s1.decideService l n c (s.lane l)
          | none, some key => s1.offerLookup l q key (s.lane l)
          | none, none => s1
      else s

/-- The route at last chance: an UNROUTED record goes to run-out with reason LATE FINAL (R35). -/
def Lane.lateFinal (L : Lane) (n : Nat) : Lane :=
  L.modPiece n (fun q => if q.route = .unrouted then L.sendToRunout .lateFinal q else q)

/-- The last-chance event of a record (R35). Read close lies before it (R8), so it is taken of a
record that is DECIDING or DECIDED. -/
def State.lastChance (s : State) (l : LaneId) (n : Nat) : State :=
  if (s.lane l).state = .faulted then s
  else match (s.lane l).piece n with
    | none => s
    | some p =>
      if due p.lastChanceAt (s.lane l).pos then
        let s1 := s.modPiece l n (fun q => { q with lastChanceAt := none })
        match p.stage with
        | .entering => s
        | .reading => s
        | .decided => s1
        | .deciding =>
          (if p.lookup = .queued then s1.withdrawDecided l p else s1).modLane l (fun L => L.lateFinal n)
      else s

/-! ### Fire and release (R144 to R146) -/

/-- The fire event of an ARMED record: it becomes FIRED, and a hold joins its gate's hold set
(R144). -/
def Lane.fire (L : Lane) (l : LaneId) (n : Nat) : Lane :=
  if L.state = .faulted then L
  else match L.piece n with
    | none => L
    | some p =>
      if p.route = .armed ∧ due p.fireAt L.pos = true then
        match p.gate, p.openAt, p.releaseAt with
        | some g, some f, some r =>
          { L.modPiece n (fun q => { q with route := .fired, fireAt := none }) with
            holds := L.holds.set g.val (L.holds[g.val] ++ [⟨l, n, f, r⟩])
            gateOut := L.gateOut.set g.val true }
        | _, _, _ => L
      else L

/-- The release event of a hold: the hold leaves its gate's hold set, and the output is deasserted
when the set becomes empty (R145, R146). -/
def Lane.release (L : Lane) (g : Gate) (n : Nat) : Lane :=
  if L.state = .faulted then L
  else match (L.holds[g.val]).find? (fun h => h.piece = n && reached h.releaseAt L.pos) with
    | none => L
    | some h =>
      { L with
        holds := L.holds.set g.val ((L.holds[g.val]).erase h)
        gateOut := L.gateOut.set g.val (!((L.holds[g.val]).erase h).isEmpty) }

/-! ### Arrivals and window closes (R159 to R169) -/

/-- The oldest record of a list whose window has opened (R159, R165). -/
def oldestOpen (ps : List Piece) (pos : Position) : Option Piece :=
  ps.find? (fun p => match p.window with
    | some w => reached w.opens pos
    | none => false)

/-- What follows the finalizations of an event: the bins' states in the given order, a waiting JAM
report, and the report of an empty track, in this order (R155, R166, R38). -/
def State.afterFinalization (s : State) (l : LaneId) (before : Lane) (order : List Gate) : State :=
  ((s.deriveBinsIn l before order).settleJam l).reportEmpty l

/-- A bin sensor arrival (R159, R160, R168). -/
def State.sensorArrival (s : State) (l : LaneId) (g : Gate) : State :=
  let counted := s.modLane l (fun L => L.modBin g Bin.confirm)
  if (s.lane l).state = .faulted then
    (counted.countLane l (fun c => { c with binStrays := c.binStrays + 1 })).deriveBins l (s.lane l)
  else match oldestOpen ((s.lane l).outstanding g) (s.lane l).pos with
    | some p =>
      ((counted.modLane l (fun L => L.modBin g (fun b => { b with miss := 0 }))).finalize l p
        .delivered).afterFinalization l (s.lane l) allGates
    | none =>
      ((counted.countLane l (fun c => { c with binStrays := c.binStrays + 1 })).raise
        (.stray l (some g))).deriveBins l (s.lane l)

/-- The consecutive miss count of a bin rises by one and stops at 7 (R161). -/
def Bin.missOne (b : Bin) : Bin := { b with miss := min 7 (b.miss + 1) }

/-- The window-close event of a record in a bin's outstanding list (R161, R162). -/
def State.windowClose (s : State) (l : LaneId) (n : Nat) : State :=
  if (s.lane l).state = .faulted then s
  else match (s.lane l).piece n with
    | none => s
    | some p =>
      match p.gate, p.window with
      | some g, some w =>
        if p.routedAt g = true ∧ reached w.closes (s.lane l).pos = true then
          let s1 := (s.finalize l p .unconfirmed).modLane l (fun L => L.modBin g Bin.missOne)
          let b := (s1.lane l).bin g
          if b.out = false ∧ (s.lane l).constants.missLimit ≤ b.miss then
            (s1.takeGateOut l g).afterFinalization l (s.lane l) (binsFrom g)
          else s1.afterFinalization l (s.lane l) allGates
        else s
      | _, _ => s

/-- The run-out confirmed count rises by one and stops at 65,535 (R153). -/
def Lane.confirmRunout (L : Lane) : Lane := { L with runoutConfirmed := min 65535 (L.runoutConfirmed + 1) }

/-- A leading edge of the run-out photocell (R165, R168). -/
def State.runoutEdge (s : State) (l : LaneId) : State :=
  let counted := s.modLane l Lane.confirmRunout
  if (s.lane l).state = .faulted then
    counted.countLane l (fun c => { c with runoutStrays := c.runoutStrays + 1 })
  else match oldestOpen (s.lane l).runoutList (s.lane l).pos with
    | some p =>
      ((counted.modLane l (fun L => { L with lostCount := 0 })).finalize l p .arrived).afterFinalization l
        (s.lane l) allGates
    | none =>
      (counted.countLane l (fun c => { c with runoutStrays := c.runoutStrays + 1 })).raise (.stray l none)

/-- The consecutive lost count rises by one and stops at 15; at the jam limit a JAM report waits for
the window closes at this position (R166). -/
def Lane.loseOne (L : Lane) (q : Position) : Lane :=
  let L' := { L with lostCount := min 15 (L.lostCount + 1) }
  if L'.constants.jamLimit ≤ L'.lostCount then { L' with jamPending := some q } else L'

/-- The window-close event of a record in the run-out list (R166). -/
def State.runoutWindowClose (s : State) (l : LaneId) (n : Nat) : State :=
  if (s.lane l).state = .faulted then s
  else match (s.lane l).piece n with
    | none => s
    | some p =>
      match p.window with
      | none => s
      | some w =>
        if p.route = .runoutBound ∧ reached w.closes (s.lane l).pos = true then
          ((s.finalize l p .lost).modLane l (fun L => L.loseOne w.closes)).afterFinalization l (s.lane l)
            allGates
        else s

/-! ### Timers (R12, R14) -/

/-- The start timer reaches the start limit (R12). -/
def State.startExpires (s : State) (l : LaneId) : State :=
  if (s.lane l).state = .starting ∧ (s.lane l).startTimer = true then s.enterFaulted l .startTimeout
  else s

/-- The drain timer reaches the drain limit (R14). -/
def State.drainExpires (s : State) (l : LaneId) : State :=
  if (s.lane l).state = .draining ∧ (s.lane l).drainTimer = true then s.enterFaulted l .drainTimeout
  else s

/-! ### The speed window (R174 to R184) -/

/-- The figure and the flags after a window end; the next window begins with the length last written
(R174, R175, R178). -/
def SpeedMonitor.measure (m : SpeedMonitor) : SpeedMonitor :=
  let f := speedFigure m.pulses m.window
  { m with
    window := m.nextWindow
    pulses := 0
    figure := f
    low := evalLow m.low m.lowLimit m.hysteresis f
    high := evalHigh m.high m.highLimit m.hysteresis f
    crit := evalHigh m.crit m.critLimit m.hysteresis f }

/-- A flag that changed raises one notice (R179). -/
def flagNotice (l : LaneId) (f : SpeedFlag) (before after : Bool) (figure : Nat) : List Notice :=
  if before = after then [] else [.speedFlag l f after figure]

/-- The notices of a window end, in the order LOW, HIGH, CRIT (R179). -/
def flagNotices (l : LaneId) (m m' : SpeedMonitor) : List Notice :=
  flagNotice l .low m.low m'.low m'.figure ++ flagNotice l .high m.high m'.high m'.figure ++
    flagNotice l .crit m.crit m'.crit m'.figure

/-- The latch and the line after a window end whose flags were those of `m` (R181). -/
def SpeedMonitor.alertAfter (m m' : SpeedMonitor) : SpeedMonitor :=
  let rose := (!m.low && m'.low) || (!m.high && m'.high) || (!m.crit && m'.crit)
  let k := { m' with latch := m'.latch || (m'.mode = AlertMode.latch && rose) }
  { k with line := k.alertLevel }

/-- The qualification count after a window end (R184). -/
def SpeedMonitor.qualify (m : SpeedMonitor) (st : LaneState) : Nat :=
  if st = .starting ∧ m.low = false ∧ m.crit = false then m.qualification + 1 else 0

/-- The lane unit takes the qualification report (R12). -/
def State.qualified (s : State) (l : LaneId) : State :=
  if (s.lane l).state = .starting then
    (s.modLane l (fun L => { L with startTimer := false })).enterLane l .running .qualified
  else s

/-- The end of a speed window (R175): figure, flags, notices, alert line and qualification. -/
def State.windowEnd (s : State) (l : LaneId) : State :=
  let m := (s.lane l).speed
  let m' := m.alertAfter m.measure
  let q := m'.qualify (s.lane l).state
  let s1 := (s.modLane l (fun L => { L with speed := { m' with qualification := if 2 ≤ q then 0 else q } })).raiseAll
    (flagNotices l m m')
  if 2 ≤ q then s1.qualified l else s1

end Sys2Proof.Machine
end

