-- ==== Sys2Proof/Machine/Operands.lean ====
section
/-! DEFINITION. The inbound operand forms: the request codes (10.6), the parameters of a request
frame by their fields and lists (R195, R198), and the range tests that turn a list item into the
entry the plan store keeps (R65 to R69). -/

namespace Sys2Proof.Machine

/-! ### Fields -/

/-- An unsigned field, most significant byte first (R188). -/
def num (bs : Bytes) : Nat := bs.foldl (fun n b => 256 * n + b.toNat) 0

/-- The field of `n` bytes at an offset. -/
def fieldAt (bs : Bytes) (at_ n : Nat) : Nat := num ((bs.drop at_).take n)

/-- A two-byte field whose FFFFh is NONE (R195, R197). -/
def optionalHalf (v : Nat) : Option Nat := if v = 0xFFFF then none else some v

/-- `n` items of `w` bytes each. -/
def chunks (w : Nat) : Nat → Bytes → List Bytes
  | 0, _ => []
  | n + 1, bs => bs.take w :: chunks w n (bs.drop w)

/-- The items of a list whose count byte stands at offset `fixed`. -/
def listItems (ps : Bytes) (fixed w : Nat) : List Bytes :=
  chunks w (fieldAt ps fixed 1) (ps.drop (fixed + 1))

/-! ### List items (R198) -/

/-- A CONSTANTS WRITE item. -/
def constantItem (b : Bytes) : ConstantItem := ⟨fieldAt b 0 1, fieldAt b 1 1, fieldAt b 2 3⟩
/-- A SPEED SET item. -/
def speedItem (b : Bytes) : SpeedItem := ⟨fieldAt b 0 1, fieldAt b 1 2⟩
/-- A LOAD FORMATS item. -/
def formatItem (b : Bytes) : FormatItem :=
  ⟨fieldAt b 0 1, fieldAt b 1 1, b.getD 2 0, b.getD 3 0, b.getD 4 0, b.getD 5 0, fieldAt b 6 1,
    fieldAt b 7 1, fieldAt b 8 1, fieldAt b 9 1, fieldAt b 10 1, fieldAt b 11 1⟩
/-- A LOAD RANGES item. -/
def rangeItem (b : Bytes) : RangeItem := ⟨fieldAt b 0 5, fieldAt b 5 5, fieldAt b 10 1⟩
/-- A LOAD CLASSES item. -/
def classItem (b : Bytes) : ClassItem :=
  ⟨fieldAt b 0 1, fieldAt b 1 1, fieldAt b 2 1, fieldAt b 3 1, fieldAt b 4 1, fieldAt b 5 1⟩
/-- A LOAD DOCTYPES item. -/
def doctypeItem (b : Bytes) : DoctypeItem := ⟨fieldAt b 0 2, fieldAt b 2 1, fieldAt b 3 1⟩
/-- A LOAD SETTINGS item. -/
def settingItem (b : Bytes) : SettingItem := ⟨fieldAt b 0 1, fieldAt b 1 2⟩

/-! ### Requests (R194, R195, 10.6) -/

/-- The code of a request (10.6). -/
def requestCode : Request → Nat
  | .deviceStatus => 0x01
  | .countersRead _ => 0x02
  | .deviceReset => 0x03
  | .laneRun _ => 0x10
  | .laneStop _ => 0x11
  | .laneAbort _ => 0x12
  | .laneClear _ => 0x13
  | .laneStatus _ => 0x14
  | .constantsWrite _ _ => 0x15
  | .constantsRead _ => 0x16
  | .machineLock _ => 0x17
  | .trackRead _ _ => 0x20
  | .planOpen _ => 0x30
  | .loadFormats _ _ _ => 0x31
  | .loadRanges _ _ _ => 0x32
  | .loadClasses _ _ => 0x33
  | .loadDoctypes _ _ _ => 0x34
  | .loadSettings _ _ => 0x35
  | .planCheck _ => 0x36
  | .planSwitch _ => 0x37
  | .planStatus => 0x38
  | .planRead _ _ _ => 0x39
  | .hotAdd _ _ => 0x40
  | .hotDelete _ => 0x41
  | .hotClear => 0x42
  | .hotRead _ => 0x43
  | .directorySet _ _ _ => 0x48
  | .directoryStatus => 0x49
  | .query _ _ _ => 0x50
  | .arbiterSet _ _ _ => 0x51
  | .lookupStatus => 0x52
  | .gateStatus _ => 0x60
  | .binLimits _ _ _ _ => 0x68
  | .binSwap _ _ => 0x69
  | .binStatus _ => 0x6A
  | .gateRestore _ _ => 0x6B
  | .speedSet _ _ => 0x70
  | .alertClear _ => 0x71
  | .speedRead _ => 0x72
  | .unknown c => c
  | .badLength c => c

/-- The parameters of a code: the bytes of its fixed fields, and the item width of its list where it
carries one (R195). None for a code that is not in the table of 10.6. -/
def paramShape : Nat → Option (Nat × Option Nat)
  | 0x01 => some (0, none) | 0x02 => some (1, none) | 0x03 => some (0, none)
  | 0x10 => some (1, none) | 0x11 => some (1, none) | 0x12 => some (1, none)
  | 0x13 => some (1, none) | 0x14 => some (1, none) | 0x15 => some (1, some 5)
  | 0x16 => some (1, none) | 0x17 => some (1, none) | 0x20 => some (3, none)
  | 0x30 => some (1, none) | 0x31 => some (3, some 12) | 0x32 => some (3, some 11)
  | 0x33 => some (1, some 6) | 0x34 => some (3, some 4) | 0x35 => some (1, some 3)
  | 0x36 => some (1, none) | 0x37 => some (1, none) | 0x38 => some (0, none)
  | 0x39 => some (4, none) | 0x40 => some (6, none) | 0x41 => some (5, none)
  | 0x42 => some (0, none) | 0x43 => some (2, none) | 0x48 => some (7, none)
  | 0x49 => some (0, none) | 0x50 => some (8, none) | 0x51 => some (3, none)
  | 0x52 => some (0, none) | 0x60 => some (1, none) | 0x68 => some (6, none)
  | 0x69 => some (2, none) | 0x6A => some (1, none) | 0x6B => some (2, none)
  | 0x70 => some (1, some 3) | 0x71 => some (1, none) | 0x72 => some (1, none)
  | _ => none

/-- The parameters have the length their code requires (R195). -/
def lengthFits (shape : Nat × Option Nat) (ps : Bytes) : Bool :=
  match shape with
  | (fixed, none) => ps.length = fixed
  | (fixed, some w) => fixed + 1 ≤ ps.length && ps.length = fixed + 1 + w * fieldAt ps fixed 1

/-- The request of a code whose parameters have the right length (R195). -/
def requestOf (code : Nat) (ps : Bytes) : Request :=
  match code with
  | 0x01 => .deviceStatus
  | 0x02 => .countersRead (fieldAt ps 0 1)
  | 0x03 => .deviceReset
  | 0x10 => .laneRun (fieldAt ps 0 1)
  | 0x11 => .laneStop (fieldAt ps 0 1)
  | 0x12 => .laneAbort (fieldAt ps 0 1)
  | 0x13 => .laneClear (fieldAt ps 0 1)
  | 0x14 => .laneStatus (fieldAt ps 0 1)
  | 0x15 => .constantsWrite (fieldAt ps 0 1) ((listItems ps 1 5).map constantItem)
  | 0x16 => .constantsRead (fieldAt ps 0 1)
  | 0x17 => .machineLock (fieldAt ps 0 1)
  | 0x20 => .trackRead (fieldAt ps 0 1) (fieldAt ps 1 2)
  | 0x30 => .planOpen (fieldAt ps 0 1)
  | 0x31 => .loadFormats (fieldAt ps 0 1) (optionalHalf (fieldAt ps 1 2)) ((listItems ps 3 12).map formatItem)
  | 0x32 => .loadRanges (fieldAt ps 0 1) (optionalHalf (fieldAt ps 1 2)) ((listItems ps 3 11).map rangeItem)
  | 0x33 => .loadClasses (fieldAt ps 0 1) ((listItems ps 1 6).map classItem)
  | 0x34 => .loadDoctypes (fieldAt ps 0 1) (optionalHalf (fieldAt ps 1 2)) ((listItems ps 3 4).map doctypeItem)
  | 0x35 => .loadSettings (fieldAt ps 0 1) ((listItems ps 1 3).map settingItem)
  | 0x36 => .planCheck (fieldAt ps 0 1)
  | 0x37 => .planSwitch (fieldAt ps 0 1)
  | 0x38 => .planStatus
  | 0x39 => .planRead (fieldAt ps 0 1) (fieldAt ps 1 1) (fieldAt ps 2 2)
  | 0x40 => .hotAdd (fieldAt ps 0 5) (fieldAt ps 5 1)
  | 0x41 => .hotDelete (fieldAt ps 0 5)
  | 0x42 => .hotClear
  | 0x43 => .hotRead (fieldAt ps 0 2)
  | 0x48 => .directorySet (fieldAt ps 0 3) (fieldAt ps 3 3) (fieldAt ps 6 1)
  | 0x49 => .directoryStatus
  | 0x50 => .query (fieldAt ps 0 1) (fieldAt ps 1 5) (optionalHalf (fieldAt ps 6 2))
  | 0x51 => .arbiterSet (fieldAt ps 0 1) (fieldAt ps 1 1) (fieldAt ps 2 1)
  | 0x52 => .lookupStatus
  | 0x60 => .gateStatus (fieldAt ps 0 1)
  | 0x68 => .binLimits (fieldAt ps 0 1) (fieldAt ps 1 1) (fieldAt ps 2 2) (fieldAt ps 4 2)
  | 0x69 => .binSwap (fieldAt ps 0 1) (fieldAt ps 1 1)
  | 0x6A => .binStatus (fieldAt ps 0 1)
  | 0x6B => .gateRestore (fieldAt ps 0 1) (fieldAt ps 1 1)
  | 0x70 => .speedSet (fieldAt ps 0 1) ((listItems ps 1 3).map speedItem)
  | 0x71 => .alertClear (fieldAt ps 0 1)
  | 0x72 => .speedRead (fieldAt ps 0 1)
  | c => .unknown c

/-- The request a code and its parameters make: UNKNOWN REQUEST first, then BAD LENGTH, else the
request (R194). -/
def parseRequest (code : Nat) (ps : Bytes) : Request :=
  match paramShape code with
  | none => .unknown code
  | some shape => if lengthFits shape ps then requestOf code ps else .badLength code

/-! ### Entries by their ranges (R65 to R69, R72) -/

/-- A plan class, 8 to 63. -/
def isPlanClass (c : Nat) : Bool := 8 ≤ c && c ≤ 63

/-- A check scheme by its code (R198). -/
def schemeOf : Nat → Option CheckScheme
  | 1 => some .none
  | 2 => some .mod10
  | 3 => some .mod11
  | _ => none

/-- The prefix of a format item: a count 1 to 4 of decimal digits (R65, R198). -/
def prefixOf (x : FormatItem) : Option (List Digit) :=
  if 1 ≤ x.pfxCount ∧ x.pfxCount ≤ 4 then
    ([x.pfx1, x.pfx2, x.pfx3, x.pfx4].take x.pfxCount).mapM digitOf
  else none

/-- The format entry of an item whose values are all in range (R65). The doctype field start is
ignored when the doctype field length is 0. -/
def formatEntry (x : FormatItem) : Option FormatEntry :=
  match prefixOf x, schemeOf x.scheme with
  | some pfx, some scheme =>
    if x.number ≤ 7 ∧ 6 ≤ x.codeLength ∧ x.codeLength ≤ 32 ∧ 1 ≤ x.accountStart ∧ x.accountStart ≤ 32 ∧
        1 ≤ x.accountLength ∧ x.accountLength ≤ 12 ∧ x.doctypeLength ≤ 3 ∧
        (x.doctypeLength = 0 ∨ (1 ≤ x.doctypeStart ∧ x.doctypeStart ≤ 32)) then
      some ⟨x.number, pfx, x.codeLength, x.accountStart, x.accountLength, x.doctypeStart,
        x.doctypeLength, scheme⟩
    else none
  | _, _ => none

/-- The range entry of an item in range (R66). -/
def rangeEntry (x : RangeItem) : Option RangeEntry :=
  if x.low ≤ Config.accountMax ∧ x.high ≤ Config.accountMax ∧ isPlanClass x.cls = true then
    some ⟨x.low, x.high, x.cls⟩
  else none

/-- The doctype entry of an item in range (R68). -/
def doctypeEntry (x : DoctypeItem) : Option DoctypeEntry :=
  if x.doctype ≤ 999 ∧ isPlanClass x.cls = true then
    match x.strength with
    | 1 => some ⟨x.doctype, x.cls, .strong⟩
    | 2 => some ⟨x.doctype, x.cls, .weak⟩
    | _ => none
  else none

/-- A lane's bins from their fields: primary 0 to 12, overflow 1 to 12 or NONE, FFh (R67). -/
def laneBins (primary overflow : Nat) : Option LaneBins :=
  if primary ≤ 12 then
    if overflow = 0xFF then some ⟨primary, none⟩
    else if 1 ≤ overflow ∧ overflow ≤ 12 then some ⟨primary, some overflow⟩
    else none
  else none

/-- The class number and entry of an item in range. An entry with the defined flag clear undefines
its class whatever bins it carries (R76). -/
def classEntryOf (x : ClassItem) : Option (Fin 64 × ClassEntry) :=
  if h : x.cls < 64 then
    match x.defined with
    | 0 => some (⟨x.cls, h⟩, ClassEntry.undefined)
    | 1 =>
      match laneBins x.primary0 x.overflow0, laneBins x.primary1 x.overflow1 with
      | some b0, some b1 => some (⟨x.cls, h⟩, ⟨true, b0, b1⟩)
      | _, _ => none
    | _ => none
  else none

/-- The settings after one item, when its code and value are in range (R69, R77). -/
def applySetting (st : Settings) (x : SettingItem) : Option Settings :=
  match x.code with
  | 1 => if isPlanClass x.value then some { st with defaultClass := x.value } else none
  | 2 => match x.value with
    | 1 => some { st with serviceRouting := .builtIn }
    | 2 => some { st with serviceRouting := .plan }
    | _ => none
  | 3 => match x.value with
    | 1 => some { st with directoryUse := false }
    | 2 => some { st with directoryUse := true }
    | _ => none
  | 4 => match x.value with
    | 1 => some { st with policy := .fallback }
    | 2 => some { st with policy := .fault }
    | _ => none
  | 5 => if x.value ≤ 65535 then some { st with label := x.value } else none
  | _ => none

end Sys2Proof.Machine
end

