-- ==== Sys2Proof/Machine/Plans.lean ====
section
/-! DEFINITION. The plan store (Chapter 4): the plan checker, the writing of tables, and the actions
of the plan requests within the event that takes them. -/

namespace Sys2Proof.Machine

/-! ### The plan checker (R80, R81) -/

/-- The account field ends at or before the position before the check digit (R80). -/
def FormatEntry.accountFits (f : FormatEntry) : Bool := f.accountStart + f.accountLength ≤ f.codeLength

/-- The doctype field is absent or ends at or before the position before the check digit (R80). -/
def FormatEntry.doctypeFits (f : FormatEntry) : Bool :=
  f.doctypeLength = 0 || f.doctypeStart + f.doctypeLength ≤ f.codeLength

/-- The account and doctype fields share a position (R80). -/
def FormatEntry.fieldsOverlap (f : FormatEntry) : Bool :=
  f.doctypeLength ≠ 0 && f.accountStart < f.doctypeStart + f.doctypeLength &&
    f.doctypeStart < f.accountStart + f.accountLength

/-- The error of a format entry after the entries before it (R80). -/
def formatError (earlier : List FormatEntry) (f : FormatEntry) : Option ErrorKind :=
  if f.accountFits = false then some .formatField
  else if f.doctypeFits = false then some .formatField
  else if f.fieldsOverlap then some .formatField
  else if earlier.any (fun e => e.pfx = f.pfx && e.codeLength = f.codeLength) then some .formatShadowed
  else none

/-- The error of a range entry after the entries before it (R80). -/
def rangeError (defined : Nat → Bool) (earlier : List RangeEntry) (e : RangeEntry) : Option ErrorKind :=
  if e.high < e.low then some .rangeInverted
  else if earlier.getLast?.any (fun p => e.low ≤ p.high) then some .rangeOrder
  else if defined e.cls = false then some .classUndefined
  else none

/-- The error of a doctype entry after the entries before it (R81). -/
def doctypeError (defined : Nat → Bool) (earlier : List DoctypeEntry) (e : DoctypeEntry) :
    Option ErrorKind :=
  if defined e.cls = false then some .classUndefined
  else if earlier.any (fun p => p.doctype = e.doctype) then some .doctypeDuplicate
  else none

/-- The first error of a table, entries in position order. -/
def tableError {α : Type} (t : TableId) (err : List α → α → Option ErrorKind) :
    List α → List α → Option CheckError
  | _, [] => none
  | earlier, e :: es =>
    match err earlier e with
    | some k => some ⟨t, earlier.length, k⟩
    | none => tableError t err (earlier ++ [e]) es

/-- The error of the settings and the service classes (R81). -/
def settingsError (k : PlanSlot) : Option CheckError :=
  if k.classDefined k.settings.defaultClass = false then some ⟨.settings, 0, .classUndefined⟩
  else if k.settings.serviceRouting = .plan then
    ([0, 1, 2, 3, 4, 5, 6, 7].find? (fun c => !k.classDefined c)).map
      (fun c => ⟨.cls, c, .serviceUndefined⟩)
  else none

/-- The first error the checker finds in a slot, or none when the check passes (R80, R81). -/
def PlanSlot.checkError (k : PlanSlot) : Option CheckError :=
  ((tableError .format formatError [] k.formats).or
    (tableError .range (rangeError k.classDefined) [] k.ranges)).or
    ((tableError .doctype (doctypeError k.classDefined) [] k.doctypes).or (settingsError k))

/-- The time a check of a slot takes: 10 µs plus 2 µs for each format, range and doctype entry in use
(R79). -/
def PlanSlot.checkMicroseconds (k : PlanSlot) : Nat :=
  10 + 2 * (k.formats.length + k.ranges.length + k.doctypes.length)

/-- A slot after its check has ended with an outcome (R79, R87). -/
def PlanSlot.checked (k : PlanSlot) (e : Option CheckError) : PlanSlot :=
  match e with
  | none => { k with state := .ready, lastCheck := .pass }
  | some e => { k with state := .loading, lastCheck := .fail e }

/-- The check in progress completes (R79, R82). -/
def State.checkCompletes (s : State) : State :=
  match s.checker with
  | none => s
  | some c =>
    (({ s with checker := none }).modSlot c.slot (fun k => k.checked k.checkError)).raise
      (.planChecked c.slot (s.slot c.slot).checkError)

/-! ### Requests that name a slot -/

/-- A slot number other than 0 or 1 is refused BAD VALUE (R70). -/
def State.withSlot (s : State) (tag code n : Nat) (act : SlotId → State) : State :=
  match slotOf n with
  | some k => act k
  | none => s.answer tag code .badValue []

/-- The slot enters LOADING from READY with its contents kept, each load pointer at its table's count
(R71). -/
def PlanSlot.reopen (k : PlanSlot) : PlanSlot :=
  { k with
    state := .loading
    formatsPtr := k.formats.length
    rangesPtr := k.ranges.length
    doctypesPtr := k.doctypes.length
    lastCheck := .none }

/-- PLAN OPEN (R71). -/
def State.reqPlanOpen (s : State) (tag slot : Nat) : State :=
  s.withSlot tag 0x30 slot (fun k =>
    match (s.slot k).state with
    | .empty =>
      (s.modSlot k (fun x => { PlanSlot.fresh .loading with refs := x.refs })).answer tag 0x30 .done []
    | .ready =>
      if (s.slot k).refs = 0 then (s.modSlot k PlanSlot.reopen).answer tag 0x30 .done []
      else s.answer tag 0x30 .inUse []
    | .loading => s.answer tag 0x30 .done []
    | .checking => s.answer tag 0x30 .busy []
    | .active => s.answer tag 0x30 .inUse []
    | .retiring => s.answer tag 0x30 .inUse [])

/-- The refusal of a load by the slot's state (R72, step 2). -/
def loadRefusal : SlotState → Option Status
  | .empty => some .notOpen
  | .checking => some .busy
  | .ready => some .protected_
  | .active => some .protected_
  | .retiring => some .protected_
  | .loading => none

/-- A load of a slot in LOADING (R72, steps 1 and 2). -/
def State.withLoading (s : State) (tag code n : Nat) (act : SlotId → State) : State :=
  s.withSlot tag code n (fun k =>
    match loadRefusal (s.slot k).state with
    | some r => s.answer tag code r []
    | none => act k)

/-- A list table after `es` are written from position `st` (R73), or after a truncation at `st` (R75). -/
def writeTable {α : Type} (old : List α) (st : Nat) (es : List α) : List α :=
  if es.isEmpty then old.take st else old.take st ++ es ++ old.drop (st + es.length)

/-- A list table of a slot as LOAD FORMATS, LOAD RANGES and LOAD DOCTYPES see it: its entries, its
load pointer, its capacity, and how both are written back. The load is refused or written as R72 to
R75 state. The place that BAD VALUE names takes two bytes (assumption log 39). -/
def State.loadTable {α β : Type} (s : State) (tag code : Nat) (k : SlotId) (start : Option Nat)
    (items : List α) (capacity : Nat) (parse : α → Option β) (old : List β) (ptr : Nat)
    (put : List β → Nat → PlanSlot → PlanSlot) : State :=
  let st := start.getD ptr
  if old.length < st then s.answer tag code .badIndex (u16 old.length)
  else if capacity < st + items.length then
    s.answer tag code .capacity (u16 capacity ++ u16 old.length)
  else match items.findIdx? (fun x => (parse x).isNone) with
    | some i => s.answer tag code .badValue (u16 i)
    | none =>
      if start = none ∧ items.isEmpty = true then
        s.answer tag code .done (u16 old.length ++ u16 ptr)
      else
        let es := items.filterMap parse
        let new := writeTable old st es
        (s.modSlot k (put new (st + es.length))).answer tag code .done
          (u16 new.length ++ u16 (st + es.length))

/-- LOAD FORMATS (R72 to R75). -/
def State.reqLoadFormats (s : State) (tag slot : Nat) (start : Option Nat) (items : List FormatItem) :
    State :=
  s.withLoading tag 0x31 slot (fun k =>
    s.loadTable tag 0x31 k start items Config.formatCapacity formatEntry (s.slot k).formats
      (s.slot k).formatsPtr (fun t p x => { x with formats := t, formatsPtr := p }))

/-- LOAD RANGES (R72 to R75). -/
def State.reqLoadRanges (s : State) (tag slot : Nat) (start : Option Nat) (items : List RangeItem) :
    State :=
  s.withLoading tag 0x32 slot (fun k =>
    s.loadTable tag 0x32 k start items Config.rangeCapacity rangeEntry (s.slot k).ranges
      (s.slot k).rangesPtr (fun t p x => { x with ranges := t, rangesPtr := p }))

/-- LOAD DOCTYPES (R72 to R75). -/
def State.reqLoadDoctypes (s : State) (tag slot : Nat) (start : Option Nat) (items : List DoctypeItem) :
    State :=
  s.withLoading tag 0x34 slot (fun k =>
    s.loadTable tag 0x34 k start items Config.doctypeCapacity doctypeEntry (s.slot k).doctypes
      (s.slot k).doctypesPtr (fun t p x => { x with doctypes := t, doctypesPtr := p }))

/-- The class table after entries are written in frame order (R76). -/
def writeClasses (t : Vector ClassEntry 64) (es : List (Fin 64 × ClassEntry)) : Vector ClassEntry 64 :=
  es.foldl (fun t e => t.set e.1.val e.2) t

/-- The number of defined classes (R76, R89). -/
def PlanSlot.definedClasses (k : PlanSlot) : Nat := (k.classes.toList.filter ClassEntry.defined).length

/-- LOAD CLASSES (R76). The place that BAD VALUE names takes two bytes (assumption log 39). -/
def State.reqLoadClasses (s : State) (tag slot : Nat) (items : List ClassItem) : State :=
  s.withLoading tag 0x33 slot (fun k =>
    match items.findIdx? (fun x => (classEntryOf x).isNone) with
    | some i => s.answer tag 0x33 .badValue (u16 i)
    | none =>
      let new := writeClasses (s.slot k).classes (items.filterMap classEntryOf)
      (s.modSlot k (fun x => { x with classes := new })).answer tag 0x33 .done
        (u16 { s.slot k with classes := new }.definedClasses))

/-- The settings after items are written in frame order (R77). -/
def writeSettings (st : Settings) (items : List SettingItem) : Settings :=
  items.foldl (fun st x => (applySetting st x).getD st) st

/-- LOAD SETTINGS (R77). The place that BAD VALUE names takes two bytes (assumption log 39). -/
def State.reqLoadSettings (s : State) (tag slot : Nat) (items : List SettingItem) : State :=
  s.withLoading tag 0x35 slot (fun k =>
    match items.findIdx? (fun x => (applySetting (s.slot k).settings x).isNone) with
    | some i => s.answer tag 0x35 .badValue (u16 i)
    | none =>
      (s.modSlot k (fun x => { x with settings := writeSettings x.settings items })).answer tag 0x35
        .done [])

/-- The slot enters CHECKING and the checker becomes busy with it (R78). -/
def State.startCheck (s : State) (k : SlotId) : State :=
  { s.modSlot k (fun x => { x with state := .checking }) with
    checker := some ⟨k, (s.slot k).checkMicroseconds⟩ }

/-- PLAN CHECK (R78). A slot number other than 0 or 1 is refused BAD VALUE also while the checker is
busy (assumption log 46). -/
def State.reqPlanCheck (s : State) (tag slot : Nat) : State :=
  s.withSlot tag 0x36 slot (fun k =>
    if s.checker.isSome then s.answer tag 0x36 .busy []
    else match (s.slot k).state with
      | .loading => (s.startCheck k).answer tag 0x36 .done []
      | .empty => s.answer tag 0x36 .notOpen []
      | .checking => s.answer tag 0x36 .busy []
      | .ready => s.answer tag 0x36 .protected_ []
      | .active => s.answer tag 0x36 .protected_ []
      | .retiring => s.answer tag 0x36 .protected_ [])

/-- What an ACTIVE slot becomes when the other slot is made ACTIVE (R84). -/
def PlanSlot.switchedOut (k : PlanSlot) : SlotState := if 0 < k.refs then .retiring else .ready

/-- The target becomes ACTIVE, and the old ACTIVE slot RETIRING or READY (R84). -/
def State.activate (s : State) (k : SlotId) : State :=
  let s' := s.modSlot k (fun x => { x with state := .active })
  if (s.slot (otherSlot k)).state = .active then
    s'.modSlot (otherSlot k) (fun x => { x with state := x.switchedOut })
  else s'

/-- The old ACTIVE slot's new state as the response carries it, NONE when there was none (R84). -/
def State.switchReport (s : State) (k : SlotId) : Nat :=
  if (s.slot (otherSlot k)).state = .active then (s.slot (otherSlot k)).switchedOut.code else 0

/-- PLAN SWITCH (R84). -/
def State.reqPlanSwitch (s : State) (tag slot : Nat) : State :=
  s.withSlot tag 0x37 slot (fun k =>
    match (s.slot k).state with
    | .ready => (s.activate k).answer tag 0x37 .done (u8 (s.switchReport k))
    | .retiring => (s.activate k).answer tag 0x37 .done (u8 (s.switchReport k))
    | .active => s.answer tag 0x37 .done (u8 0)
    | .empty => s.answer tag 0x37 .notReady []
    | .loading => s.answer tag 0x37 .notReady []
    | .checking => s.answer tag 0x37 .notReady [])

/-- A last check outcome in a response (R87, R89). Table, index and kind always follow the outcome, as
NONE where it is not FAIL (assumption log 38). -/
def checkOutcomeFields (o : CheckOutcome) : Bytes :=
  u8 o.code ++ checkErrorFields (match o with
    | .fail e => some e
    | _ => none)

/-- A slot's group in PLAN STATUS (R89). -/
def PlanSlot.statusFields (k : PlanSlot) : Bytes :=
  u8 k.state.code ++ u16 k.refs ++ u16 k.formats.length ++ u16 k.formatsPtr ++ u16 k.ranges.length ++
    u16 k.rangesPtr ++ u16 k.doctypes.length ++ u16 k.doctypesPtr ++ u16 k.definedClasses ++
    u16 k.settings.label ++ checkOutcomeFields k.lastCheck

/-- PLAN STATUS (R89). -/
def State.reqPlanStatus (s : State) (tag : Nat) : State :=
  s.answer tag 0x38 .done
    (optField 1 (s.activeSlot.map slotNum) ++ optField 1 (s.checker.map (fun c => slotNum c.slot)) ++
      s.slot0.statusFields ++ s.slot1.statusFields)

/-- A format entry in a response, in the layout and widths that R198 gives it in a request, with 30h
for the unused prefix characters (assumption log 42). -/
def FormatEntry.fields (f : FormatEntry) : Bytes :=
  u8 f.number ++ u8 f.pfx.length ++
    (f.pfx.map (fun d => BitVec.ofNat 8 (0x30 + d.val)) ++ List.replicate (4 - f.pfx.length) 0x30#8) ++
    u8 f.codeLength ++ u8 f.accountStart ++ u8 f.accountLength ++ u8 f.doctypeStart ++
    u8 f.doctypeLength ++ u8 f.scheme.code

/-- A range entry in a response. -/
def RangeEntry.fields (e : RangeEntry) : Bytes := u40 e.low ++ u40 e.high ++ u8 e.cls

/-- A doctype entry in a response. -/
def DoctypeEntry.fields (e : DoctypeEntry) : Bytes := u16 e.doctype ++ u8 e.cls ++ u8 e.strength.code

/-- A class entry in a response: the defined flag and the bins of both lanes (R90). -/
def ClassEntry.fields (e : ClassEntry) : Bytes :=
  bit e.defined ++ u8 e.bins0.primary ++ optField 1 e.bins0.overflow ++ u8 e.bins1.primary ++
    optField 1 e.bins1.overflow

/-- The settings in a response, in the order of R69. -/
def Settings.fields (st : Settings) : Bytes :=
  u8 st.defaultClass ++ u8 st.serviceRouting.code ++ u8 (useCode st.directoryUse) ++ u8 st.policy.code ++
    u16 st.label

/-- The entry of a list table at a position, with the count, or BAD INDEX with the count (R90). -/
def State.readTable {α : Type} (s : State) (tag : Nat) (t : List α) (fields : α → Bytes) (i : Nat) :
    State :=
  match t[i]? with
  | some e => s.answer tag 0x39 .done (fields e ++ u16 t.length)
  | none => s.answer tag 0x39 .badIndex (u16 t.length)

/-- PLAN READ (R90). -/
def State.reqPlanRead (s : State) (tag slot table index : Nat) : State :=
  s.withSlot tag 0x39 slot (fun k =>
    match table with
    | 1 => s.readTable tag (s.slot k).formats FormatEntry.fields index
    | 2 => s.readTable tag (s.slot k).ranges RangeEntry.fields index
    | 3 =>
      if index < 64 then s.answer tag 0x39 .done ((s.slot k).classEntry index).fields
      else s.answer tag 0x39 .badValue []
    | 4 => s.readTable tag (s.slot k).doctypes DoctypeEntry.fields index
    | 5 => s.answer tag 0x39 .done (s.slot k).settings.fields
    | _ => s.answer tag 0x39 .badValue [])

/-- A slot at a warm reset (R91). -/
def PlanSlot.warm (k : PlanSlot) : PlanSlot :=
  match k.state with
  | .checking => { k with refs := 0, state := .loading, lastCheck := .abandoned }
  | .retiring => { k with refs := 0, state := .ready }
  | .empty => { k with refs := 0 }
  | .loading => { k with refs := 0 }
  | .ready => { k with refs := 0 }
  | .active => { k with refs := 0 }

end Sys2Proof.Machine
end

