-- ==== Sys2Proof/Machine/HotDirectory.lean ====
section
/-! DEFINITION. The hot list (5.1), and the requests of the directory port and of the lookup block
(R101, R110, R115, R118, R127), as actions within the event that takes them. -/

namespace Sys2Proof.Machine

/-! ### The hot list (R93 to R97)

Every hot-list request, refused or not, answers with the entry count as it stands after it (R93). -/

/-- The place that keeps the list ascending: the number of entries with a lower account (R94). -/
def hotPlace (hot : List HotEntry) (account : Nat) : Nat :=
  (hot.takeWhile (fun e => e.account < account)).length

/-- A new entry is inserted at its ordered place (R94). -/
def hotInsert (hot : List HotEntry) (account cls : Nat) : List HotEntry :=
  hot.take (hotPlace hot account) ++ ⟨account, cls⟩ :: hot.drop (hotPlace hot account)

/-- The index of the entry with an account. -/
def hotIndex (hot : List HotEntry) (account : Nat) : Option Nat :=
  hot.findIdx? (fun e => e.account = account)

/-- HOT ADD (R94). -/
def State.reqHotAdd (s : State) (tag account cls : Nat) : State :=
  if Config.accountMax < account ∨ isPlanClass cls = false then
    s.answer tag 0x40 .badValue (u16 s.hot.length)
  else match hotIndex s.hot account, hotClass s.hot account with
    | some i, some old =>
      ({ s with hot := s.hot.set i ⟨account, cls⟩ }).answer tag 0x40 .replaced
        (u16 i ++ u8 old ++ u16 s.hot.length)
    | _, _ =>
      if s.hot.length < Config.hotCapacity then
        ({ s with hot := hotInsert s.hot account cls }).answer tag 0x40 .done
          (u16 (hotPlace s.hot account) ++ u16 (s.hot.length + 1))
      else s.answer tag 0x40 .full (u16 s.hot.length)

/-- HOT DELETE (R95). -/
def State.reqHotDelete (s : State) (tag account : Nat) : State :=
  if Config.accountMax < account then s.answer tag 0x41 .badValue (u16 s.hot.length)
  else match hotIndex s.hot account, hotClass s.hot account with
    | some i, some old =>
      ({ s with hot := s.hot.eraseIdx i }).answer tag 0x41 .done
        (u8 old ++ u16 i ++ u16 (s.hot.length - 1))
    | _, _ => s.answer tag 0x41 .notFound (u16 s.hot.length)

/-- HOT CLEAR (R96). -/
def State.reqHotClear (s : State) (tag : Nat) : State :=
  ({ s with hot := [] }).answer tag 0x42 .done (u16 s.hot.length ++ u16 0)

/-- HOT READ (R97). -/
def State.reqHotRead (s : State) (tag index : Nat) : State :=
  match s.hot[index]? with
  | some e => s.answer tag 0x43 .done (u40 e.account ++ u8 e.cls ++ u16 s.hot.length)
  | none => s.answer tag 0x43 .badIndex (u16 s.hot.length)

/-! ### The directory port (R101, R110) -/

/-- The tests of DIRECTORY SET (R101). -/
def directoryRefused (base count wait : Nat) : Bool :=
  base % 2 = 1 || Config.directoryWords - 1 < base || Config.directoryEntries < count ||
    Config.directoryWords < base + 2 * count || wait < 1 || 255 < wait

/-- DIRECTORY SET (R101). -/
def State.reqDirectorySet (s : State) (tag base count wait : Nat) : State :=
  if directoryRefused base count wait then s.answer tag 0x48 .badValue []
  else
    ({ s with
      dir := { s.dir with
        base := base
        count := count
        waitLimit := wait
        failed := false
        consecutive := 0
        timeouts := 0 } }).answer tag 0x48 .done []

/-- DIRECTORY STATUS (R110). A line's level is 1 when asserted and 0 when deasserted (assumption log
29). -/
def State.reqDirectoryStatus (s : State) (tag : Nat) : State :=
  s.answer tag 0x49 .done
    (u24 s.dir.base ++ u24 s.dir.count ++ u8 s.dir.waitLimit ++ u8 s.dir.port.code ++ bit s.dir.failed ++
      u16 s.dir.consecutive ++ u16 s.dir.timeouts ++ bit s.dir.holdLine ++ bit s.dir.holdAck ++
      bit s.dir.wanted)

/-! ### QUERY, ARBITER SET and LOOKUP STATUS (R115, R118, R127) -/

/-- The slot states a QUERY may name (R83, R115). -/
def SlotState.queryable : SlotState → Bool
  | .ready => true
  | .active => true
  | .retiring => true
  | .empty => false
  | .loading => false
  | .checking => false

/-- A QUERY joins the queue: a reference is taken on its slot, a response place is reserved, and the
arbiter may grant it (R115, R116, R193). -/
def State.joinQuery (s : State) (tag : Nat) (k : SlotId) (account : Nat) (doctype : Option Nat) :
    State :=
  ({ s.takeRef k with
    lookup := s.lookup.join (.query tag) account doctype k
    link := { s.link with reserved := s.link.reserved + 1 } }).grant

/-- QUERY (R115). -/
def State.reqQuery (s : State) (tag slot account : Nat) (doctype : Option Nat) : State :=
  s.withSlot tag 0x50 slot (fun k =>
    if Config.accountMax < account ∨ doctype.any (fun d => 999 < d) = true then
      s.answer tag 0x50 .badValue []
    else if (s.slot k).state.queryable = false then s.answer tag 0x50 .notReady []
    else if Config.lookupCapacity ≤ s.lookup.queue.length then s.answer tag 0x50 .busy []
    else s.joinQuery tag k account doctype)

/-- ARBITER SET (R118). -/
def State.reqArbiterSet (s : State) (tag p0 p1 age : Nat) : State :=
  if 3 < p0 ∨ 3 < p1 ∨ 255 < age then s.answer tag 0x51 .badValue []
  else
    ({ s with lookup := { s.lookup with priority0 := p0, priority1 := p1, ageLimit := age } }).answer tag
      0x51 .done []

/-- The source of a request and its lane and piece number, or its query tag (R127). -/
def Requester.fields : Requester → Bytes
  | .piece .lane0 n => u8 1 ++ u8 0 ++ u32 n
  | .piece .lane1 n => u8 2 ++ u8 1 ++ u32 n
  | .query t => u8 3 ++ u16 t

/-- A request's group in LOOKUP STATUS (R127). The arrival number takes two bytes (assumption log 40). -/
def LookupRequest.fields (r : LookupRequest) : Bytes :=
  r.requester.fields ++ u8 (slotNum r.slot) ++ u16 r.arrival.toNat

/-- The engine in LOOKUP STATUS: IDLE, or busy with its request and stage (R127). -/
def engineFields : Option Job → Bytes
  | none => u8 1
  | some j => u8 2 ++ j.request.fields ++ u8 j.stage.code

/-- LOOKUP STATUS (R127). The next arrival number takes two bytes (assumption log 40). -/
def State.reqLookupStatus (s : State) (tag : Nat) : State :=
  s.answer tag 0x52 .done
    (u8 s.lookup.priority0 ++ u8 s.lookup.priority1 ++ u8 s.lookup.ageLimit ++ u16 s.lookup.passCount ++
      u16 s.lookup.nextArrival.toNat ++ u16 s.lookup.queue.length ++
      s.lookup.queue.flatMap LookupRequest.fields ++ engineFields s.lookup.engine ++
      u16 s.lane0.counters.overloads.toNat ++ u16 s.lane1.counters.overloads.toNat ++
      u16 s.link.counters.discardedResults.toNat)

/-- The lookup block at a warm reset (R129). -/
def LookupUnit.warm (u : LookupUnit) : LookupUnit :=
  { u with queue := [], engine := none, nextArrival := 0, passCount := 0 }

end Sys2Proof.Machine
end

