-- ==== Sys2Proof/Machine/LaneRequests.lean ====
section
/-! DEFINITION. The requests of the lane unit and the track (Chapter 1, R41), as actions within the
event that takes them. -/

namespace Sys2Proof.Machine

/-- A lane number other than 0 or 1 is refused BAD VALUE (R10). -/
def State.withLane (s : State) (tag code n : Nat) (act : LaneId → State) : State :=
  match laneOf n with
  | some l => act l
  | none => s.answer tag code .badValue []

/-! ### LANE RUN to LANE STATUS -/

/-- The item and index of a failed consistency condition, the index in the two bytes of R197; NONE
where the item has no index (assumption log 26). -/
def Inconsistency.itemFields (x : Inconsistency) : Bytes := u8 x.item ++ optField 2 x.index

/-- The lane enters STARTING: the start timer starts and the qualification count is set to 0 (R11,
R184). -/
def Lane.start (L : Lane) : Lane :=
  { L with startTimer := true, speed := { L.speed with qualification := 0 } }

/-- LANE RUN (R11). -/
def State.reqLaneRun (s : State) (tag lane : Nat) : State :=
  s.withLane tag 0x10 lane (fun l =>
    match (s.lane l).state with
    | .stopped =>
      if s.activeSlot.isNone then s.answer tag 0x10 .noPlan []
      else match (s.lane l).constants.inconsistency with
        | some x => s.answer tag 0x10 .badConstants x.itemFields
        | none => ((s.modLane l Lane.start).enterLane l .starting .run).answer tag 0x10 .done []
    | .starting => s.answer tag 0x10 .done []
    | .running => s.answer tag 0x10 .done []
    | .draining => s.answer tag 0x10 .draining []
    | .faulted => s.answer tag 0x10 .faulted [])

/-- The lane enters DRAINING: the start timer stops and the drain timer starts (R13). -/
def State.startDrain (s : State) (l : LaneId) : State :=
  ((s.modLane l (fun L => { L with startTimer := false, drainTimer := true })).enterLane l .draining
    .stop).reportEmpty l

/-- LANE STOP (R13). -/
def State.reqLaneStop (s : State) (tag lane : Nat) : State :=
  s.withLane tag 0x11 lane (fun l =>
    match (s.lane l).state with
    | .starting => (s.startDrain l).answer tag 0x11 .done []
    | .running => (s.startDrain l).answer tag 0x11 .done []
    | .draining => s.answer tag 0x11 .done []
    | .stopped => s.answer tag 0x11 .done []
    | .faulted => s.answer tag 0x11 .faulted [])

/-- LANE ABORT (R15). -/
def State.reqLaneAbort (s : State) (tag lane : Nat) : State :=
  s.withLane tag 0x12 lane (fun l => (s.faultReport l .abort).answer tag 0x12 .done [])

/-- Every record of the track is finalized as ABANDONED, from the oldest (R40). -/
def State.abandonAll (s : State) (l : LaneId) : State :=
  (s.lane l).track.foldl (fun s p => s.finalize l p .abandoned) s

/-- The clear of a FAULTED lane: its records are abandoned, the lost count becomes 0, the bins'
states are derived, and the lane enters STOPPED (R18, R40, R169). -/
def State.clearLane (s : State) (l : LaneId) : State :=
  (((s.abandonAll l).modLane l (fun L => { L with lostCount := 0 })).deriveBins l (s.lane l)).enterLane l
    .stopped .clear

/-- LANE CLEAR (R18). -/
def State.reqLaneClear (s : State) (tag lane : Nat) : State :=
  s.withLane tag 0x13 lane (fun l =>
    match (s.lane l).state with
    | .faulted => (s.clearLane l).answer tag 0x13 .done []
    | .stopped => s.answer tag 0x13 .notFaulted []
    | .starting => s.answer tag 0x13 .notFaulted []
    | .running => s.answer tag 0x13 .notFaulted []
    | .draining => s.answer tag 0x13 .notFaulted [])

/-- The results of LANE STATUS (R20). The speed figure takes two bytes (assumption log 41), and the
alert line's level is 1 when asserted and 0 when deasserted (assumption log 29). -/
def Lane.statusFields (L : Lane) : Bytes :=
  u8 L.state.code ++ u8 ((L.lastCause.map FaultCause.code).getD 0) ++ u16 L.track.length ++
    posField L.pos ++ u16 L.speed.figure ++ bit L.speed.low ++ bit L.speed.high ++ bit L.speed.crit ++
    bit L.speed.line ++ bit L.lock ++ u16 L.counters.entriesStopped.toNat

/-- LANE STATUS (R20). -/
def State.reqLaneStatus (s : State) (tag lane : Nat) : State :=
  s.withLane tag 0x14 lane (fun l => s.answer tag 0x14 .done (s.lane l).statusFields)

/-! ### Machine constants (R5 to R9) -/

/-- The range of a constant by its item code (R5). LENGTH MIN is held to the table's 255, although the
example of 1.2.2 writes 300 (assumption log 47). -/
def constantRange : Nat → Option (Nat × Nat)
  | 1 => some (0, 12)
  | 2 => some (1, 1048575)
  | 3 => some (0, 20000)
  | 4 => some (0, 4095)
  | 5 => some (1, 65535)
  | 6 => some (1, 1048575)
  | 7 => some (1, 65535)
  | 8 => some (0, 4)
  | 9 => some (0, 65535)
  | 10 => some (0, 255)
  | 11 => some (1, 1048575)
  | 12 => some (1, 255)
  | 13 => some (1, 4095)
  | 14 => some (0, 65535)
  | 15 => some (0, 16383)
  | 16 => some (1, 7)
  | 17 => some (1, 15)
  | 18 => some (1, 60)
  | 19 => some (1, 120)
  | _ => none

/-- The index of an item is in range for its code: a gate number for codes 2 to 5, a head number for
code 9, ignored for the others (R6). -/
def constantIndexOk (code index : Nat) : Bool :=
  if 2 ≤ code ∧ code ≤ 5 then 1 ≤ index && index ≤ 12
  else if code = 9 then index ≤ 3
  else true

/-- The item's code, index and value are in range (R6). -/
def constantItemOk (x : ConstantItem) : Bool :=
  match constantRange x.code with
  | some (lo, hi) => constantIndexOk x.code x.index && lo ≤ x.value && x.value ≤ hi
  | none => false

/-- One gate's constants are updated. -/
def Constants.modGate (c : Constants) (n : Nat) (f : GateConstants → GateConstants) : Constants :=
  match gateOf n with
  | some g => { c with gates := c.gates.set g.val (f c.gates[g.val]) }
  | none => c

/-- One item is written (R6). -/
def Constants.write (c : Constants) (x : ConstantItem) : Constants :=
  match x.code with
  | 1 => { c with gateCount := x.value }
  | 2 => c.modGate x.index (fun g => { g with distance := x.value })
  | 3 => c.modGate x.index (fun g => { g with leadTime := x.value })
  | 4 => c.modGate x.index (fun g => { g with dwell := x.value })
  | 5 => c.modGate x.index (fun g => { g with confirm := x.value })
  | 6 => { c with runoutDistance := x.value }
  | 7 => { c with runoutWindow := x.value }
  | 8 => { c with headCount := x.value }
  | 9 => if h : x.index < 4 then { c with headOffset := c.headOffset.set x.index x.value } else c
  | 10 => { c with halfWindow := x.value }
  | 11 => { c with readClose := x.value }
  | 12 => { c with lengthMin := x.value }
  | 13 => { c with lengthMax := x.value }
  | 14 => { c with guardMargin := x.value }
  | 15 => { c with speedFloor := x.value }
  | 16 => { c with missLimit := x.value }
  | 17 => { c with jamLimit := x.value }
  | 18 => { c with startLimit := x.value }
  | 19 => { c with drainLimit := x.value }
  | _ => c

/-- CONSTANTS WRITE (R6). BAD VALUE names the item by code and index, the index in the two bytes of
R197 and as the item carried it, also where its code ignores it (assumption log 26). -/
def State.reqConstantsWrite (s : State) (tag lane : Nat) (items : List ConstantItem) : State :=
  s.withLane tag 0x15 lane (fun l =>
    if (s.lane l).state ≠ .stopped then s.answer tag 0x15 .laneActive []
    else if (s.lane l).lock then s.answer tag 0x15 .locked []
    else match items.find? (fun x => !constantItemOk x) with
      | some x => s.answer tag 0x15 .badValue (u8 x.code ++ u16 x.index)
      | none =>
        (s.modLane l (fun L => { L with constants := items.foldl Constants.write L.constants })).answer tag
          0x15 .done [])

/-- The constants of a gate in CONSTANTS READ. -/
def GateConstants.fields (g : GateConstants) : Bytes :=
  u24 g.distance ++ u16 g.leadTime ++ u16 g.dwell ++ u16 g.confirm

/-- Every constant, in the order of R5's table (assumption log 27). The speed floor takes two bytes
(assumption log 41). -/
def Constants.fields (c : Constants) : Bytes :=
  u16 c.gateCount ++ c.gates.toList.flatMap GateConstants.fields ++ u24 c.runoutDistance ++
    u16 c.runoutWindow ++ u16 c.headCount ++ c.headOffset.toList.flatMap u16 ++ u16 c.halfWindow ++
    u24 c.readClose ++ u16 c.lengthMin ++ u16 c.lengthMax ++ u16 c.guardMargin ++ u16 c.speedFloor ++
    u8 c.missLimit ++ u8 c.jamLimit ++ u8 c.startLimit ++ u8 c.drainLimit

/-- The outcome of the consistency test in CONSTANTS READ: PASS 1, or the order of the failed
condition plus 1, with the item and index it names (R7, assumption log 26). -/
def outcomeFields : Option Inconsistency → Bytes
  | none => u8 1 ++ optField 1 none ++ optField 2 none
  | some x => u8 (x.condition + 1) ++ x.itemFields

/-- CONSTANTS READ (R7). -/
def State.reqConstantsRead (s : State) (tag lane : Nat) : State :=
  s.withLane tag 0x16 lane (fun l =>
    s.answer tag 0x16 .done
      ((s.lane l).constants.fields ++ bit (s.lane l).lock ++
        outcomeFields (s.lane l).constants.inconsistency))

/-- MACHINE LOCK (R9). -/
def State.reqMachineLock (s : State) (tag lane : Nat) : State :=
  s.withLane tag 0x17 lane (fun l =>
    (s.modLane l (fun L => { L with lock := true })).answer tag 0x17 .done [])

/-! ### TRACK READ (R41) -/

/-- A report slot in TRACK READ: stamp, result, digit string, each NONE in an empty slot. -/
def reportFields : Option Report → Bytes
  | none => optPos none ++ u8 0 ++ optDigits none
  | some r => posField r.stamp ++ u8 (if r.digits.isSome then 1 else 2) ++ optDigits r.digits

/-- The read outcome in TRACK READ: outcome, code string, format number, contested flag. An outcome
that is absent or not RESOLVED records no contested flag, and 0 is sent for it (assumption log 37). -/
def outcomeReadFields (o : Option ReadOutcome) : Bytes :=
  u8 ((o.map ReadOutcome.code).getD 0) ++ optDigits (o.bind ReadOutcome.codeString) ++
    optField 1 (o.bind ReadOutcome.formatNumber) ++ bit ((o.map ReadOutcome.contested).getD false)

/-- Every field of a record, in the order of R41. -/
def Piece.fields (p : Piece) : Bytes :=
  u32 p.number ++ posField p.lead ++ optPos p.trail ++ optField 2 p.length ++ bit p.overlong ++
    u8 (slotNum p.slot) ++ u16 p.label ++ bit p.notReady ++ p.reports.toList.flatMap reportFields ++
    outcomeReadFields p.outcome ++ optField 5 (p.key.map Key.account) ++
    optField 2 (p.key.bind Key.doctype) ++ u8 p.stage.code ++ u8 p.lookup.code ++ optField 1 p.cls ++
    u8 ((p.source.map LookupSource.code).getD 0) ++ bit p.flags.hotUndefined ++
    bit p.flags.dirUndefined ++ bit p.flags.dirFallback ++ u8 p.route.code ++
    optField 1 (p.gate.map gateNum) ++ optPos p.openAt ++ optPos p.releaseAt ++
    u8 ((p.reason.map RouteReason.code).getD 0) ++ optPos (p.window.map Window.opens) ++
    optPos (p.window.map Window.closes)

/-- TRACK READ (R41). -/
def State.reqTrackRead (s : State) (tag lane index : Nat) : State :=
  s.withLane tag 0x20 lane (fun l =>
    match (s.lane l).track[index]? with
    | some p => s.answer tag 0x20 .done (u16 (s.lane l).track.length ++ p.fields)
    | none => s.answer tag 0x20 .badIndex (u16 (s.lane l).track.length))

end Sys2Proof.Machine
end

