-- ==== Sys2Proof/Machine/BinSpeedRequests.lean ====
section
/-! DEFINITION. The requests of the route and gate unit, the bin monitor and the speed monitor
(Chapters 7 to 9), as actions within the event that takes them. -/

namespace Sys2Proof.Machine

/-! ### GATE STATUS (R151) -/

/-- The latest of the release positions of a hold set: the one no other is past. -/
def latestRelease : List Hold → Option Position
  | [] => none
  | h :: hs => some (hs.foldl (fun r x => if past r x.releaseAt then x.releaseAt else r) h.releaseAt)

/-- The records of the track in a route state at a gate. -/
def Lane.routedCount (L : Lane) (r : RouteState) (g : Gate) : Nat :=
  (L.track.filter (fun p => p.route = r && p.gate = some g)).length

/-- A gate's group in GATE STATUS. The level of the gate output is 1 when asserted and 0 when
deasserted (assumption log 29). -/
def Lane.gateFields (L : Lane) (g : Gate) : Bytes :=
  bit L.gateOut[g.val] ++ u16 (L.holds[g.val]).length ++ optPos (latestRelease L.holds[g.val]) ++
    u16 (L.routedCount .armed g) ++ u16 (L.routedCount .captured g)

/-- GATE STATUS (R151). The compensation speed takes two bytes (assumption log 41). -/
def State.reqGateStatus (s : State) (tag lane : Nat) : State :=
  s.withLane tag 0x60 lane (fun l =>
    s.answer tag 0x60 .done (allGates.flatMap (s.lane l).gateFields ++ u16 (s.lane l).compensation))

/-! ### Bins (R156, R157, R164, R170) -/

/-- The limits of BIN LIMITS are in range (R156). -/
def limitsOk (capacity nearFull : Nat) : Bool :=
  1 ≤ capacity && capacity ≤ 9999 && 1 ≤ nearFull && nearFull ≤ capacity

/-- BIN LIMITS (R156). -/
def State.reqBinLimits (s : State) (tag lane bin capacity nearFull : Nat) : State :=
  s.withLane tag 0x68 lane (fun l =>
    match gateOf bin with
    | none => s.answer tag 0x68 .badValue []
    | some g =>
      if limitsOk capacity nearFull = false then s.answer tag 0x68 .badValue []
      else
        let s' := s.modLane l (fun L =>
          L.modBin g (fun b => { b with capacity := capacity, nearFull := nearFull }))
        (s'.deriveBins l (s.lane l)).answer tag 0x68 .done (u8 ((s'.lane l).binState g).code))

/-- BIN SWAP (R157). -/
def State.reqBinSwap (s : State) (tag lane bin : Nat) : State :=
  s.withLane tag 0x69 lane (fun l =>
    if bin = 0 then
      (s.modLane l (fun L => { L with runoutConfirmed := 0 })).answer tag 0x69 .done
        (u16 (s.lane l).runoutConfirmed)
    else match gateOf bin with
      | none => s.answer tag 0x69 .badValue []
      | some g =>
        ((s.modLane l (fun L => L.modBin g (fun b => { b with confirmed := 0 }))).deriveBins l
          (s.lane l)).answer tag 0x69 .done (u16 ((s.lane l).bin g).confirmed))

/-- A bin's group in BIN STATUS. -/
def Lane.binFields (L : Lane) (g : Gate) : Bytes :=
  u16 (L.bin g).confirmed ++ u16 (L.pendingAt g) ++ u16 (L.bin g).capacity ++ u16 (L.bin g).nearFull ++
    u8 (L.binState g).code ++ bit (L.bin g).out ++ u16 (L.bin g).miss

/-- The piece number and window of the oldest record of a list; nothing for an empty list (R170). -/
def oldestFields : List Piece → Bytes
  | [] => []
  | p :: _ => u32 p.number ++ optPos (p.window.map Window.opens) ++ optPos (p.window.map Window.closes)

/-- The bins whose outstanding list is not empty. -/
def Lane.expecting (L : Lane) : List Gate := allGates.filter (fun g => !(L.outstanding g).isEmpty)

/-- The results of BIN STATUS (R170). -/
def Lane.binStatusFields (L : Lane) : Bytes :=
  allGates.flatMap L.binFields ++ u8 L.expecting.length ++
    L.expecting.flatMap (fun g => oldestFields (L.outstanding g)) ++ u16 L.runoutConfirmed ++
    u16 L.runoutList.length ++ oldestFields L.runoutList ++ u16 L.lostCount ++ u8 L.constants.missLimit ++
    u8 L.constants.jamLimit ++ u16 L.counters.binStrays.toNat ++ u16 L.counters.runoutStrays.toNat

/-- BIN STATUS (R170). -/
def State.reqBinStatus (s : State) (tag lane : Nat) : State :=
  s.withLane tag 0x6A lane (fun l => s.answer tag 0x6A .done (s.lane l).binStatusFields)

/-- GATE RESTORE (R164). -/
def State.reqGateRestore (s : State) (tag lane gate : Nat) : State :=
  s.withLane tag 0x6B lane (fun l =>
    match gateOf gate with
    | none => s.answer tag 0x6B .badValue []
    | some g =>
      let s' := s.modLane l (fun L => L.modBin g (fun b => { b with out := false, miss := 0 }))
      (s'.deriveBins l (s.lane l)).answer tag 0x6B .done (u8 ((s'.lane l).binState g).code))

/-! ### SPEED SET (R176, R183) -/

/-- An alert mode by its code (R198). -/
def alertModeOf : Nat → Option AlertMode
  | 1 => some .off
  | 2 => some .level
  | 3 => some .latch
  | 4 => some .critOnly
  | _ => none

/-- A mode written by SPEED SET acts on the latch (R183). -/
def SpeedMonitor.setMode (m : SpeedMonitor) (mode : AlertMode) : SpeedMonitor :=
  if m.mode = mode then m
  else { m with mode := mode, latch := mode = .latch && (m.low || m.high || m.crit) }

/-- An item is in range (R176, step 2). -/
def speedItemOk (x : SpeedItem) : Bool :=
  match x.code with
  | 1 => x.value = 4 || x.value = 8 || x.value = 16 || x.value = 32
  | 2 => x.value ≤ 16383
  | 3 => x.value ≤ 16383
  | 4 => x.value ≤ 16383
  | 5 => x.value ≤ 255
  | 6 => (alertModeOf x.value).isSome
  | _ => false

/-- The value an item list would leave: that of its last item with the code, else the one held
(R176, step 4). -/
def lastValue (items : List SpeedItem) (code held : Nat) : Nat :=
  items.foldl (fun v x => if x.code = code then x.value else v) held

/-- The mode an item list would leave. -/
def lastMode (items : List SpeedItem) (held : AlertMode) : AlertMode :=
  items.foldl (fun m x => if x.code = 6 then (alertModeOf x.value).getD m else m) held

/-- The items are written; a new mode acts on the latch, and the line takes its level (R176, R181,
R183). -/
def SpeedMonitor.write (m : SpeedMonitor) (items : List SpeedItem) : SpeedMonitor :=
  let m' := { m with
    nextWindow := lastValue items 1 m.nextWindow
    lowLimit := lastValue items 2 m.lowLimit
    highLimit := lastValue items 3 m.highLimit
    critLimit := lastValue items 4 m.critLimit
    hysteresis := lastValue items 5 m.hysteresis }.setMode (lastMode items m.mode)
  { m' with line := m'.alertLevel }

/-- The values SPEED SET reports as now held, in the order of R176. The hysteresis takes two bytes
(assumption log 41). -/
def SpeedMonitor.heldFields (m : SpeedMonitor) : Bytes :=
  u16 m.nextWindow ++ u16 m.lowLimit ++ u16 m.highLimit ++ u16 m.critLimit ++ u16 m.hysteresis ++
    u8 m.mode.code

/-- SPEED SET (R176). -/
def State.reqSpeedSet (s : State) (tag lane : Nat) (items : List SpeedItem) : State :=
  s.withLane tag 0x70 lane (fun l =>
    let m := (s.lane l).speed
    match items.find? (fun x => !speedItemOk x) with
    | some x => s.answer tag 0x70 .badValue (u8 x.code)
    | none =>
      if (s.lane l).lock = true ∧ items.any (fun x => x.code = 4 || x.code = 5) = true then
        s.answer tag 0x70 .locked []
      else if lastValue items 3 m.highLimit < lastValue items 2 m.lowLimit then
        s.answer tag 0x70 .badValue (u8 3)
      else if lastValue items 4 m.critLimit < lastValue items 3 m.highLimit then
        s.answer tag 0x70 .badValue (u8 4)
      else
        (s.modLane l (fun L => { L with speed := L.speed.write items })).answer tag 0x70 .done
          (m.write items).heldFields)

/-! ### ALERT CLEAR and SPEED READ (R182, R185) -/

/-- The latch and the line at ALERT CLEAR (R182). -/
def SpeedMonitor.clearAlert (m : SpeedMonitor) : SpeedMonitor :=
  if m.mode = .latch ∧ m.crit = false then { m with latch := false, line := false } else m

/-- ALERT CLEAR (R182). The line's level is 1 when asserted and 0 when deasserted (assumption log 29). -/
def State.reqAlertClear (s : State) (tag lane : Nat) : State :=
  s.withLane tag 0x71 lane (fun l =>
    let m := (s.lane l).speed.clearAlert
    (s.modLane l (fun L => { L with speed := m })).answer tag 0x71 .done (bit m.latch ++ bit m.line))

/-- The two-byte field of the window pulse count: the count up to 65,535, and a free value beyond
(assumption log 6). -/
def pulseField (n : Nat) : Bytes :=
  if n ≤ 65535 then u16 n else u16 (Config.pulseCountField n).toNat

/-- The results of SPEED READ (R185). The figure, the hysteresis and the compensation speed take two
bytes each (assumption log 41), the line's level is 1 when asserted and 0 when deasserted (assumption
log 29), and the length that will apply is NONE where it does not change (assumption log 32). -/
def Lane.speedFields (L : Lane) : Bytes :=
  let m := L.speed
  u16 m.window ++ optField 2 (if m.nextWindow = m.window then none else some m.nextWindow) ++
    pulseField m.pulses ++ u16 m.figure ++ u16 m.lowLimit ++ u16 m.highLimit ++ u16 m.critLimit ++
    u16 m.hysteresis ++ bit m.low ++ bit m.high ++ bit m.crit ++ u8 m.mode.code ++ bit m.latch ++
    bit m.line ++ u16 m.qualification ++ bit L.lock ++ u16 L.compensation

/-- SPEED READ (R185). -/
def State.reqSpeedRead (s : State) (tag lane : Nat) : State :=
  s.withLane tag 0x72 lane (fun l => s.answer tag 0x72 .done (s.lane l).speedFields)

end Sys2Proof.Machine
end

