-- ==== Sys2Proof/Machine/Link.lean ====
section
/-! DEFINITION. The link unit (Chapter 10): the device requests and the two resets, the taking of
requests, and the receiver. -/

namespace Sys2Proof.Machine

/-! ### Device requests (R201, R202) -/

/-- The lane counters 11 to 20 in the order of R201. -/
def LaneCounters.fields (c : LaneCounters) : Bytes :=
  [c.entriesStopped, c.flutters, c.discarded, c.garbled, c.replaced, c.late, c.orphan, c.overloads,
    c.binStrays, c.runoutStrays].flatMap (fun x => u16 x.toNat)

/-- The device counters 1 to 10 in the order of R201. -/
def DeviceCounters.fields (c : DeviceCounters) : Bytes :=
  [c.crcErrors, c.lengthErrors, c.gapAbandons, c.unknownKinds, c.shortFrames, c.bufferOverflows,
    c.noticesLost, c.dispositionDiscards, c.noLaneReports, c.discardedResults].flatMap
    (fun x => u16 x.toNat)

/-- Every counter of R201 is set to 0. -/
def State.clearCounters (s : State) : State :=
  ((s.countDevice (fun _ => .zero)).countLane .lane0 (fun _ => .zero)).countLane .lane1 (fun _ => .zero)

/-- Every counter in the order of R201. -/
def State.counterFields (s : State) : Bytes :=
  s.link.counters.fields ++ s.lane0.counters.fields ++ s.lane1.counters.fields

/-- COUNTERS READ (R201). -/
def State.reqCountersRead (s : State) (tag clear : Nat) : State :=
  match clear with
  | 0 => s.answer tag 0x02 .done s.counterFields
  | 1 => s.clearCounters.answer tag 0x02 .done s.counterFields
  | _ => s.answer tag 0x02 .badValue []

/-- The capacities of DEVICE STATUS in the order of R202. -/
def capacityFields : Bytes :=
  u16 Config.trackCapacity ++ u16 Config.gates ++ u16 Config.heads ++ u16 Config.formatCapacity ++
    u16 Config.rangeCapacity ++ u16 Config.doctypeCapacity ++ u16 Config.hotCapacity ++
    u24 Config.directoryEntries ++ u16 Config.lookupCapacity ++ u16 Config.bufferCapacity ++
    u16 Config.responsePlaces ++ u16 Config.noticeCapacity ++ u16 Config.dispositionCapacity ++
    u16 Config.maxFrameLength

/-- The results of DEVICE STATUS (R202). The widths of the family code, the revision and the capacities
are the model's (assumption log 31). -/
def Link.statusFields (k : Link) : Bytes :=
  u16 Config.familyCode ++ u8 Config.revision ++ u16 2 ++ capacityFields ++ u16 k.buffer.length ++
    u16 k.responses.length ++ u16 k.reserved ++ u16 k.notices.length ++ u16 k.dispositions.length ++
    u16 k.lostNotices ++ bit k.coldStart

/-- DEVICE STATUS: the cold start flag is cleared after it has been read (R202). The waiting responses
are counted before its own joins them (assumption log 44). -/
def State.reqDeviceStatus (s : State) (tag : Nat) : State :=
  ({ s with link := { s.link with coldStart := false } }).answer tag 0x01 .done s.link.statusFields

/-! ### The warm reset (R203) -/

/-- A bin at a warm reset (R173). -/
def Bin.warm (b : Bin) : Bin := { b with miss := 0 }

/-- The speed monitor at a warm reset (R186). -/
def SpeedMonitor.warm (m : SpeedMonitor) : SpeedMonitor :=
  { m with
    window := m.nextWindow
    pulses := 0
    figure := 0
    low := false
    high := false
    crit := false
    latch := false
    line := false
    qualification := 0 }

/-- A lane at a warm reset (R22, R43, R152, R173, R186). -/
def Lane.warm (L : Lane) : Lane :=
  ({ L with
    startTimer := false
    drainTimer := false
    jamPending := none
    track := []
    bins := L.bins.map Bin.warm
    lostCount := 0
    speed := L.speed.warm }.enter .stopped).dropHolds

/-- The warm reset of every block but the link unit. -/
def State.warmBlocks (s : State) : State :=
  { s with
    lane0 := s.lane0.warm
    lane1 := s.lane1.warm
    slot0 := s.slot0.warm
    slot1 := s.slot1.warm
    checker := none
    dir := s.dir.warm
    lookup := s.lookup.warm }

/-- The link unit at a warm reset: its buffer and queues are emptied (R203). -/
def Link.warm (k : Link) : Link :=
  { k with buffer := [], responses := [], reserved := 0, notices := [], lostNotices := 0, dispositions := [] }

/-- DEVICE RESET (R203): the records of each track and the requests dropped are reported. -/
def State.reqDeviceReset (s : State) (tag : Nat) : State :=
  ({ s.warmBlocks with link := s.link.warm }).answer tag 0x03 .done
    (u16 s.lane0.track.length ++ u16 s.lane1.track.length ++ u16 s.link.buffer.length)

/-! ### The cold reset (R204) -/

/-- RESET is asserted: every block takes its cold-reset values, every output is deasserted, the
transmitter is silent and the receiver is held in HUNT (R204). The input lines keep their levels. -/
def State.coldReset (s : State) : State :=
  { State.reset with
    lane0 := Lane.cold s.lane0.entryLine
    lane1 := Lane.cold s.lane1.entryLine
    dir := Directory.cold s.dir.holdLine s.dir.readyLine
    resetLine := true
    pending := s.pending }

/-- RESET is deasserted: the part runs, and the directory port takes its state from HOLD (R112,
R204). -/
def State.releaseReset (s : State) : State :=
  if s.resetLine then
    { s with resetLine := false, dir := s.dir.fromHold, link := { s.link with coldStart := true } }
  else s

/-! ### Taking requests (R194) -/

/-- The owning block's action on a request that is taken, with its response (R194). -/
def State.perform (s : State) (tag : Nat) : Request → State
  | .deviceStatus => s.reqDeviceStatus tag
  | .countersRead c => s.reqCountersRead tag c
  | .deviceReset => s.reqDeviceReset tag
  | .laneRun l => s.reqLaneRun tag l
  | .laneStop l => s.reqLaneStop tag l
  | .laneAbort l => s.reqLaneAbort tag l
  | .laneClear l => s.reqLaneClear tag l
  | .laneStatus l => s.reqLaneStatus tag l
  | .constantsWrite l xs => s.reqConstantsWrite tag l xs
  | .constantsRead l => s.reqConstantsRead tag l
  | .machineLock l => s.reqMachineLock tag l
  | .trackRead l i => s.reqTrackRead tag l i
  | .planOpen k => s.reqPlanOpen tag k
  | .loadFormats k st xs => s.reqLoadFormats tag k st xs
  | .loadRanges k st xs => s.reqLoadRanges tag k st xs
  | .loadClasses k xs => s.reqLoadClasses tag k xs
  | .loadDoctypes k st xs => s.reqLoadDoctypes tag k st xs
  | .loadSettings k xs => s.reqLoadSettings tag k xs
  | .planCheck k => s.reqPlanCheck tag k
  | .planSwitch k => s.reqPlanSwitch tag k
  | .planStatus => s.reqPlanStatus tag
  | .planRead k t i => s.reqPlanRead tag k t i
  | .hotAdd a c => s.reqHotAdd tag a c
  | .hotDelete a => s.reqHotDelete tag a
  | .hotClear => s.reqHotClear tag
  | .hotRead i => s.reqHotRead tag i
  | .directorySet b n w => s.reqDirectorySet tag b n w
  | .directoryStatus => s.reqDirectoryStatus tag
  | .query k a d => s.reqQuery tag k a d
  | .arbiterSet p q a => s.reqArbiterSet tag p q a
  | .lookupStatus => s.reqLookupStatus tag
  | .gateStatus l => s.reqGateStatus tag l
  | .binLimits l b c n => s.reqBinLimits tag l b c n
  | .binSwap l b => s.reqBinSwap tag l b
  | .binStatus l => s.reqBinStatus tag l
  | .gateRestore l g => s.reqGateRestore tag l g
  | .speedSet l xs => s.reqSpeedSet tag l xs
  | .alertClear l => s.reqAlertClear tag l
  | .speedRead l => s.reqSpeedRead tag l
  | .unknown c => s.answer tag c .unknownRequest []
  | .badLength c => s.answer tag c .badLength []

/-- The oldest request of the buffer leaves it and is performed, and the transmitter takes a frame at
the end of that event (R194, R200). -/
def State.takeRequest (s : State) (r : BufferedRequest) (rest : List BufferedRequest) : State :=
  ({ s with link := { s.link with buffer := rest } }.perform r.tag r.request).transmit

/-- Requests are taken one at a time, oldest first, while one waits and the response queue has a free
place; at most `fuel` of them (R194). -/
def State.takeRequests : Nat → State → State
  | 0, s => s
  | fuel + 1, s =>
    match s.link.buffer with
    | [] => s
    | r :: rest => if s.link.freePlaces = 0 then s else (s.takeRequest r rest).takeRequests fuel

/-- The end of an event: the transmitter, when idle, takes a frame, and the requests that have found a
free place are taken (R194, R200). -/
def State.settle (s : State) : State := s.transmit.takeRequests s.link.buffer.length

/-- A request arrives: it joins the tail of the buffer and is taken as soon as R194 lets it, or is
dropped and counted when 4 wait (R192). -/
def State.submit (s : State) (tag : Nat) (r : Request) : State :=
  if s.link.buffer.length < Config.bufferCapacity then
    ({ s with link := { s.link with buffer := s.link.buffer ++ [(⟨tag, r⟩ : BufferedRequest)] } }).takeRequests
      (s.link.buffer.length + 1)
  else s.countDevice (fun c => { c with bufferOverflows := c.bufferOverflows + 1 })

/-! ### The receiver (R189 to R192) -/

/-- A SCAN REPORT body is handed to the read resolvers (R191, R45). -/
def State.scanReport (s : State) (body : Bytes) : State :=
  if body.length < 6 then s.countDevice (fun c => { c with shortFrames := c.shortFrames + 1 })
  else match laneOf (fieldAt body 0 1) with
    | none => s.countDevice (fun c => { c with noLaneReports := c.noLaneReports + 1 })
    | some l =>
      s.modLane l (fun L => L.scanReport (fieldAt body 1 1) (BitVec.ofNat 24 (fieldAt body 2 3))
        (fieldAt body 5 1) (body.drop 6))

/-- A REQUEST body joins the request buffer. A body too short for its tag and code counts as a short
frame alone, also while 4 requests wait (R192, assumption log 43). -/
def State.requestFrame (s : State) (body : Bytes) : State :=
  if body.length < 3 then s.countDevice (fun c => { c with shortFrames := c.shortFrames + 1 })
  else s.submit (fieldAt body 0 2) (parseRequest (fieldAt body 2 1) (body.drop 3))

/-- A frame whose CRC agrees is dispatched by its kind (R190). -/
def State.dispatchFrame (s : State) (content : Bytes) : State :=
  match content with
  | [] => s
  | kind :: body =>
    if kind = 0x11#8 then s.scanReport body
    else if kind = 0x21#8 then s.requestFrame body
    else s.countDevice (fun c => { c with unknownKinds := c.unknownKinds + 1 })

/-- The receiver moves to a state. -/
def State.setReceiver (s : State) (r : Receiver) : State := { s with link := { s.link with rx := r } }

/-- A frame has been received with its two CRC bytes: it is checked and dispatched, and the receiver
returns to HUNT (R190). -/
def State.frameComplete (s : State) (content : Bytes) (c0 c1 : Byte) : State :=
  if crc16 (crcCover content) = c0 ++ c1 then (s.setReceiver .hunt).dispatchFrame content
  else (s.setReceiver .hunt).countDevice (fun c => { c with crcErrors := c.crcErrors + 1 })

/-- The length of a frame is 0 or above 300 (R189). -/
def lengthBad (n : Nat) : Bool := n = 0 || Config.maxFrameLength < n

/-- The frame is dropped for its length (R189). -/
def State.dropLength (s : State) : State :=
  (s.setReceiver .hunt).countDevice (fun c => { c with lengthErrors := c.lengthErrors + 1 })

/-- A byte arrives on the inbound link (R189). -/
def State.receiveByte (s : State) (b : Byte) : State :=
  match s.link.rx with
  | .hunt => if b = 0xA5#8 then s.setReceiver .sync else s
  | .sync =>
    if b = 0x5A#8 then s.setReceiver (.length none)
    else if b = 0xA5#8 then s
    else s.setReceiver .hunt
  | .length none => s.setReceiver (.length (some b))
  | .length (some b0) =>
    if lengthBad (num [b0, b]) then s.dropLength else s.setReceiver (.body (num [b0, b]) [])
  | .body len got =>
    if len ≤ got.length + 1 then s.setReceiver (.check len (got ++ [b]) none)
    else s.setReceiver (.body len (got ++ [b]))
  | .check len got none => s.setReceiver (.check len got (some b))
  | .check _ got (some c0) => s.frameComplete got c0 b

/-- The wait for the next byte of a frame exceeds 1 ms (R189). -/
def State.gapExpires (s : State) : State :=
  match s.link.rx with
  | .hunt => s
  | _ => (s.setReceiver .hunt).countDevice (fun c => { c with gapAbandons := c.gapAbandons + 1 })

end Sys2Proof.Machine
end

