-- ==== Sys2Proof/Machine/Events.lean ====
section
/-! DEFINITION. The meanings of the events: transport lines, position events, timed events, the
directory port's lines, the sort link and the reset input. Each is a next state but for a leading
edge with no ACTIVE slot. While RESET is asserted the part is held in cold reset (R204): an event
then changes nothing but the level its own line stands at (assumption log 4, 9). -/

namespace Sys2Proof.Machine

/-- The outcome of an event that takes the part to `t`; nothing happens while RESET is asserted
(R204). -/
def State.unlessReset (s t : State) : Host.Outcome State Fault Refusal :=
  .next (if s.resetLine then s else t)

/-! ### Input levels -/

/-- The level of a lane's ENTRY input. -/
def State.setEntry (s : State) (l : LaneId) (v : Bool) : State :=
  s.modLane l (fun L => { L with entryLine := v })

/-- The level of the HOLD input. -/
def State.setHold (s : State) (v : Bool) : State := { s with dir := { s.dir with holdLine := v } }

/-- The level of the READY input. -/
def State.setReady (s : State) (v : Bool) : State := { s with dir := { s.dir with readyLine := v } }

/-! ### Transport lines and position events -/

/-- ENCODER_PULSE (R3, R174). -/
def execEncoderPulse (lane : LaneId) (s : State) : Host.Outcome State Fault Refusal :=
  s.unlessReset (s.modLane lane Lane.pulse)

/-- The leading edge of a lane whose ENTRY level has been noted. On a lane that takes letters the
record is stamped with the ACTIVE slot; with none, which R83 rules out, the part stops (assumption
log 5). -/
def State.takeLeadingEdge (s : State) (l : LaneId) : Host.Outcome State Fault Refusal :=
  match s.activeSlot with
  | some k => .next (s.leadingEdge l k).settle
  | none =>
    if (s.lane l).state.takes = true ∧ (s.lane l).track.length < Config.trackCapacity then
      .fault .noActiveSlot
    else .next (s.leadingEdge l .slot0).settle

/-- LEADING_EDGE (R21, R25, R26, R27). -/
def execLeadingEdge (lane : LaneId) (s : State) : Host.Outcome State Fault Refusal :=
  if s.resetLine then .next (s.setEntry lane true)
  else (s.setEntry lane true).takeLeadingEdge lane

/-- TRAILING_EDGE (R28, R29, R30). -/
def execTrailingEdge (lane : LaneId) (s : State) : Host.Outcome State Fault Refusal :=
  if s.resetLine then .next (s.setEntry lane false)
  else .next ((s.setEntry lane false).trailingEdge lane).settle

/-- FORCED_TRAIL (R31). -/
def execForcedTrail (lane : LaneId) (piece : Nat) (s : State) : Host.Outcome State Fault Refusal :=
  s.unlessReset (s.forcedTrail lane piece).settle

/-- READ_CLOSE (R32, R33, R52 to R61). -/
def execReadClose (lane : LaneId) (piece : Nat) (s : State) : Host.Outcome State Fault Refusal :=
  s.unlessReset (s.readClose lane piece).settle

/-- LAST_CHANCE (R35). -/
def execLastChance (lane : LaneId) (piece : Nat) (s : State) : Host.Outcome State Fault Refusal :=
  s.unlessReset (s.lastChance lane piece).settle

/-- FIRE_EVENT (R144, R146). -/
def execFireEvent (lane : LaneId) (piece : Nat) (s : State) : Host.Outcome State Fault Refusal :=
  s.unlessReset (s.modLane lane (fun L => L.fire lane piece))

/-- RELEASE_EVENT (R145, R146). -/
def execReleaseEvent (lane : LaneId) (gate : Gate) (piece : Nat) (s : State) :
    Host.Outcome State Fault Refusal :=
  s.unlessReset (s.modLane lane (fun L => L.release gate piece))

/-- SENSOR_ARRIVAL (R159, R160, R168). -/
def execSensorArrival (lane : LaneId) (bin : Gate) (s : State) : Host.Outcome State Fault Refusal :=
  s.unlessReset (s.sensorArrival lane bin).settle

/-- WINDOW_CLOSE (R161, R162). -/
def execWindowClose (lane : LaneId) (piece : Nat) (s : State) : Host.Outcome State Fault Refusal :=
  s.unlessReset (s.windowClose lane piece).settle

/-- RUNOUT_LEADING_EDGE (R165, R168). -/
def execRunoutLeadingEdge (lane : LaneId) (s : State) : Host.Outcome State Fault Refusal :=
  s.unlessReset (s.runoutEdge lane).settle

/-- RUNOUT_WINDOW_CLOSE (R166). -/
def execRunoutWindowClose (lane : LaneId) (piece : Nat) (s : State) :
    Host.Outcome State Fault Refusal :=
  s.unlessReset (s.runoutWindowClose lane piece).settle

/-! ### Timed events -/

/-- START_TIMEOUT (R12). -/
def execStartTimeout (lane : LaneId) (s : State) : Host.Outcome State Fault Refusal :=
  s.unlessReset (s.startExpires lane).settle

/-- DRAIN_TIMEOUT (R14). -/
def execDrainTimeout (lane : LaneId) (s : State) : Host.Outcome State Fault Refusal :=
  s.unlessReset (s.drainExpires lane).settle

/-- WINDOW_END (R174, R175, R178 to R181, R184). -/
def execWindowEnd (lane : LaneId) (s : State) : Host.Outcome State Fault Refusal :=
  s.unlessReset (s.windowEnd lane).settle

/-- CHECK_COMPLETION (R79 to R82). -/
def execCheckCompletion (s : State) : Host.Outcome State Fault Refusal :=
  s.unlessReset s.checkCompletes.settle

/-- The completion of a stage is taken only while the engine stands in it (R119). -/
def State.stageEnds (s : State) (stage : EngineStage) (act : Job → State) : State :=
  match s.lookup.engine with
  | some job => if job.stage = stage then act job else s
  | none => s

/-- HOT_STAGE_COMPLETE (R120). -/
def execHotStageComplete (s : State) : Host.Outcome State Fault Refusal :=
  s.unlessReset (s.stageEnds .hot s.hotStage).settle

/-- RANGE_STAGE_COMPLETE (R122). -/
def execRangeStageComplete (s : State) : Host.Outcome State Fault Refusal :=
  s.unlessReset (s.stageEnds .range s.rangeStage).settle

/-- DEFAULT_STAGE_COMPLETE (R122). -/
def execDefaultStageComplete (s : State) : Host.Outcome State Fault Refusal :=
  s.unlessReset (s.stageEnds .default s.defaultStage).settle

/-- DOCTYPE_STAGE_COMPLETE (R123). -/
def execDoctypeStageComplete (s : State) : Host.Outcome State Fault Refusal :=
  s.unlessReset (s.stageEnds .doctype s.doctypeStage).settle

/-! ### Directory port -/

/-- READY_ASSERTED (R103). -/
def execReadyAsserted (word : DirWord) (s : State) : Host.Outcome State Fault Refusal :=
  if s.resetLine then .next (s.setReady true) else .next (s.readyRises word).settle

/-- READ_TIMEOUT (R104). -/
def execReadTimeout (s : State) : Host.Outcome State Fault Refusal :=
  s.unlessReset s.readTimesOut.settle

/-- HOLD_ASSERTED (R106). -/
def execHoldAsserted (s : State) : Host.Outcome State Fault Refusal :=
  if s.resetLine then .next (s.setHold true) else .next s.holdRises.settle

/-- HOLD_DEASSERTED (R108). -/
def execHoldDeasserted (s : State) : Host.Outcome State Fault Refusal :=
  if s.resetLine then .next (s.setHold false) else .next s.holdFalls.settle

/-- READY_DEASSERTED (R103). -/
def execReadyDeasserted (s : State) : Host.Outcome State Fault Refusal := .next (s.setReady false)

/-! ### Sort link -/

/-- The second length byte makes a length of 0 or above 300 (R189). -/
def State.takeLengthError (s : State) (b : Byte) : State :=
  match s.link.rx with
  | .length (some b0) => if lengthBad (num [b0, b]) then s.dropLength else s
  | _ => s

/-- LENGTH_ERROR: the operand is the second length byte (R189). -/
def execLengthError (byte : Byte) (s : State) : Host.Outcome State Fault Refusal :=
  s.unlessReset (s.takeLengthError byte)

/-- GAP_ABANDON (R189). -/
def execGapAbandon (s : State) : Host.Outcome State Fault Refusal := s.unlessReset s.gapExpires

/-- The second CRC byte completes the frame (R189, R190). -/
def State.takeFrame (s : State) (b : Byte) : State :=
  match s.link.rx with
  | .check _ got (some c0) => s.frameComplete got c0 b
  | _ => s

/-- FRAME_RECEIVED: the operand is the second CRC byte (R190). -/
def execFrameReceived (byte : Byte) (s : State) : Host.Outcome State Fault Refusal :=
  s.unlessReset (s.takeFrame byte)

/-- The transmitter finishes its frame (R200). -/
def State.finishFrame (s : State) : State :=
  if s.link.tx.isSome then ({ s with link := { s.link with tx := none } }).settle else s

/-- FRAME_SENT (R200). -/
def execFrameSent (s : State) : Host.Outcome State Fault Refusal := s.unlessReset s.finishFrame

/-- BYTE_RECEIVED (R189). -/
def execByteReceived (byte : Byte) (s : State) : Host.Outcome State Fault Refusal :=
  s.unlessReset (s.receiveByte byte)

/-! ### Reset input -/

/-- COLD_RESET (R204). -/
def execColdReset (s : State) : Host.Outcome State Fault Refusal := .next s.coldReset

/-- RESET_RELEASE (R204). -/
def execResetRelease (s : State) : Host.Outcome State Fault Refusal := .next s.releaseReset

end Sys2Proof.Machine
end

