-- ==== Sys2Proof/Machine/Requests.lean ====
section
/-! DEFINITION. The meanings of the request commands. A request command is the arrival of a request
with its tag and parameters at the request buffer (R192); `State.submit` says when it is taken
(R194), `State.perform` which block's action answers it, and the named rule what that action is.
While RESET is asserted the part takes nothing (R204). -/

namespace Sys2Proof.Machine

/-- UNKNOWN_REQUEST: a request of a code that is not in the table of 10.6 (R194, step 1). The command
stands for the request with that code and no parameters, so that a code of the table, which the
command cannot spell (`WellFormed`), is taken by steps 2 and 3 (assumption log 45). -/
def execUnknownRequest (tag : Nat) (code : Nat) (s : State) : Host.Outcome State Fault Refusal :=
  s.unlessReset (s.submit tag (parseRequest code []))

/-- DEVICE_STATUS (R202). -/
def execDeviceStatus (tag : Nat) (s : State) : Host.Outcome State Fault Refusal :=
  s.unlessReset (s.submit tag (.deviceStatus))

/-- COUNTERS_READ (R201). -/
def execCountersRead (tag : Nat) (clear : Nat) (s : State) : Host.Outcome State Fault Refusal :=
  s.unlessReset (s.submit tag (.countersRead clear))

/-- DEVICE_RESET (R203). -/
def execDeviceReset (tag : Nat) (s : State) : Host.Outcome State Fault Refusal :=
  s.unlessReset (s.submit tag (.deviceReset))

/-- LANE_RUN (R11). -/
def execLaneRun (tag : Nat) (lane : Nat) (s : State) : Host.Outcome State Fault Refusal :=
  s.unlessReset (s.submit tag (.laneRun lane))

/-- LANE_STOP (R13). -/
def execLaneStop (tag : Nat) (lane : Nat) (s : State) : Host.Outcome State Fault Refusal :=
  s.unlessReset (s.submit tag (.laneStop lane))

/-- LANE_ABORT (R15). -/
def execLaneAbort (tag : Nat) (lane : Nat) (s : State) : Host.Outcome State Fault Refusal :=
  s.unlessReset (s.submit tag (.laneAbort lane))

/-- LANE_CLEAR (R18). -/
def execLaneClear (tag : Nat) (lane : Nat) (s : State) : Host.Outcome State Fault Refusal :=
  s.unlessReset (s.submit tag (.laneClear lane))

/-- LANE_STATUS (R20). -/
def execLaneStatus (tag : Nat) (lane : Nat) (s : State) : Host.Outcome State Fault Refusal :=
  s.unlessReset (s.submit tag (.laneStatus lane))

/-- CONSTANTS_WRITE (R6). -/
def execConstantsWrite (tag : Nat) (lane : Nat) (items : List ConstantItem) (s : State) :
    Host.Outcome State Fault Refusal :=
  s.unlessReset (s.submit tag (.constantsWrite lane items))

/-- CONSTANTS_READ (R7). -/
def execConstantsRead (tag : Nat) (lane : Nat) (s : State) : Host.Outcome State Fault Refusal :=
  s.unlessReset (s.submit tag (.constantsRead lane))

/-- MACHINE_LOCK (R9). -/
def execMachineLock (tag : Nat) (lane : Nat) (s : State) : Host.Outcome State Fault Refusal :=
  s.unlessReset (s.submit tag (.machineLock lane))

/-- TRACK_READ (R41). -/
def execTrackRead (tag : Nat) (lane : Nat) (index : Nat) (s : State) :
    Host.Outcome State Fault Refusal :=
  s.unlessReset (s.submit tag (.trackRead lane index))

/-- PLAN_OPEN (R71). -/
def execPlanOpen (tag : Nat) (slot : Nat) (s : State) : Host.Outcome State Fault Refusal :=
  s.unlessReset (s.submit tag (.planOpen slot))

/-- LOAD_FORMATS (R73). -/
def execLoadFormats (tag : Nat) (slot : Nat) (start : Option Nat) (items : List FormatItem) (s : State) :
    Host.Outcome State Fault Refusal :=
  s.unlessReset (s.submit tag (.loadFormats slot start items))

/-- LOAD_RANGES (R73). -/
def execLoadRanges (tag : Nat) (slot : Nat) (start : Option Nat) (items : List RangeItem) (s : State) :
    Host.Outcome State Fault Refusal :=
  s.unlessReset (s.submit tag (.loadRanges slot start items))

/-- LOAD_CLASSES (R76). -/
def execLoadClasses (tag : Nat) (slot : Nat) (items : List ClassItem) (s : State) :
    Host.Outcome State Fault Refusal :=
  s.unlessReset (s.submit tag (.loadClasses slot items))

/-- LOAD_DOCTYPES (R73). -/
def execLoadDoctypes (tag : Nat) (slot : Nat) (start : Option Nat) (items : List DoctypeItem) (s : State) :
    Host.Outcome State Fault Refusal :=
  s.unlessReset (s.submit tag (.loadDoctypes slot start items))

/-- LOAD_SETTINGS (R77). -/
def execLoadSettings (tag : Nat) (slot : Nat) (items : List SettingItem) (s : State) :
    Host.Outcome State Fault Refusal :=
  s.unlessReset (s.submit tag (.loadSettings slot items))

/-- PLAN_CHECK (R78). -/
def execPlanCheck (tag : Nat) (slot : Nat) (s : State) : Host.Outcome State Fault Refusal :=
  s.unlessReset (s.submit tag (.planCheck slot))

/-- PLAN_SWITCH (R84). -/
def execPlanSwitch (tag : Nat) (slot : Nat) (s : State) : Host.Outcome State Fault Refusal :=
  s.unlessReset (s.submit tag (.planSwitch slot))

/-- PLAN_STATUS (R89). -/
def execPlanStatus (tag : Nat) (s : State) : Host.Outcome State Fault Refusal :=
  s.unlessReset (s.submit tag (.planStatus))

/-- PLAN_READ (R90). -/
def execPlanRead (tag : Nat) (slot : Nat) (table : Nat) (index : Nat) (s : State) :
    Host.Outcome State Fault Refusal :=
  s.unlessReset (s.submit tag (.planRead slot table index))

/-- HOT_ADD (R94). -/
def execHotAdd (tag : Nat) (account : Nat) (cls : Nat) (s : State) :
    Host.Outcome State Fault Refusal :=
  s.unlessReset (s.submit tag (.hotAdd account cls))

/-- HOT_DELETE (R95). -/
def execHotDelete (tag : Nat) (account : Nat) (s : State) : Host.Outcome State Fault Refusal :=
  s.unlessReset (s.submit tag (.hotDelete account))

/-- HOT_CLEAR (R96). -/
def execHotClear (tag : Nat) (s : State) : Host.Outcome State Fault Refusal :=
  s.unlessReset (s.submit tag (.hotClear))

/-- HOT_READ (R97). -/
def execHotRead (tag : Nat) (index : Nat) (s : State) : Host.Outcome State Fault Refusal :=
  s.unlessReset (s.submit tag (.hotRead index))

/-- DIRECTORY_SET (R101). -/
def execDirectorySet (tag : Nat) (base : Nat) (count : Nat) (wait : Nat) (s : State) :
    Host.Outcome State Fault Refusal :=
  s.unlessReset (s.submit tag (.directorySet base count wait))

/-- DIRECTORY_STATUS (R110). -/
def execDirectoryStatus (tag : Nat) (s : State) : Host.Outcome State Fault Refusal :=
  s.unlessReset (s.submit tag (.directoryStatus))

/-- QUERY (R115). -/
def execQuery (tag : Nat) (slot : Nat) (account : Nat) (doctype : Option Nat) (s : State) :
    Host.Outcome State Fault Refusal :=
  s.unlessReset (s.submit tag (.query slot account doctype))

/-- ARBITER_SET (R118). -/
def execArbiterSet (tag : Nat) (priority0 : Nat) (priority1 : Nat) (ageLimit : Nat) (s : State) :
    Host.Outcome State Fault Refusal :=
  s.unlessReset (s.submit tag (.arbiterSet priority0 priority1 ageLimit))

/-- LOOKUP_STATUS (R127). -/
def execLookupStatus (tag : Nat) (s : State) : Host.Outcome State Fault Refusal :=
  s.unlessReset (s.submit tag (.lookupStatus))

/-- GATE_STATUS (R151). -/
def execGateStatus (tag : Nat) (lane : Nat) (s : State) : Host.Outcome State Fault Refusal :=
  s.unlessReset (s.submit tag (.gateStatus lane))

/-- BIN_LIMITS (R156). -/
def execBinLimits (tag : Nat) (lane : Nat) (bin : Nat) (capacity : Nat) (nearFull : Nat) (s : State) :
    Host.Outcome State Fault Refusal :=
  s.unlessReset (s.submit tag (.binLimits lane bin capacity nearFull))

/-- BIN_SWAP (R157). -/
def execBinSwap (tag : Nat) (lane : Nat) (bin : Nat) (s : State) :
    Host.Outcome State Fault Refusal :=
  s.unlessReset (s.submit tag (.binSwap lane bin))

/-- BIN_STATUS (R170). -/
def execBinStatus (tag : Nat) (lane : Nat) (s : State) : Host.Outcome State Fault Refusal :=
  s.unlessReset (s.submit tag (.binStatus lane))

/-- GATE_RESTORE (R164). -/
def execGateRestore (tag : Nat) (lane : Nat) (gate : Nat) (s : State) :
    Host.Outcome State Fault Refusal :=
  s.unlessReset (s.submit tag (.gateRestore lane gate))

/-- SPEED_SET (R176). -/
def execSpeedSet (tag : Nat) (lane : Nat) (items : List SpeedItem) (s : State) :
    Host.Outcome State Fault Refusal :=
  s.unlessReset (s.submit tag (.speedSet lane items))

/-- ALERT_CLEAR (R182). -/
def execAlertClear (tag : Nat) (lane : Nat) (s : State) : Host.Outcome State Fault Refusal :=
  s.unlessReset (s.submit tag (.alertClear lane))

/-- SPEED_READ (R185). -/
def execSpeedRead (tag : Nat) (lane : Nat) (s : State) : Host.Outcome State Fault Refusal :=
  s.unlessReset (s.submit tag (.speedRead lane))

end Sys2Proof.Machine
end

