-- ==== Sys2Proof/Machine/Dispatch.lean ====
section
/-! DEFINITION. One arm per command of spec/opcode_table.json, each one direct call of its meaning. -/

namespace Sys2Proof.Machine

def exec (i : Instr) (s : State) : Host.Outcome State Fault Refusal :=
  match i with
  | .encoderPulse lane => Sys2Proof.Machine.execEncoderPulse lane s
  | .leadingEdge lane => Sys2Proof.Machine.execLeadingEdge lane s
  | .trailingEdge lane => Sys2Proof.Machine.execTrailingEdge lane s
  | .forcedTrail lane piece => Sys2Proof.Machine.execForcedTrail lane piece s
  | .readClose lane piece => Sys2Proof.Machine.execReadClose lane piece s
  | .lastChance lane piece => Sys2Proof.Machine.execLastChance lane piece s
  | .fireEvent lane piece => Sys2Proof.Machine.execFireEvent lane piece s
  | .releaseEvent lane gate piece => Sys2Proof.Machine.execReleaseEvent lane gate piece s
  | .sensorArrival lane bin => Sys2Proof.Machine.execSensorArrival lane bin s
  | .windowClose lane piece => Sys2Proof.Machine.execWindowClose lane piece s
  | .runoutLeadingEdge lane => Sys2Proof.Machine.execRunoutLeadingEdge lane s
  | .runoutWindowClose lane piece => Sys2Proof.Machine.execRunoutWindowClose lane piece s
  | .startTimeout lane => Sys2Proof.Machine.execStartTimeout lane s
  | .drainTimeout lane => Sys2Proof.Machine.execDrainTimeout lane s
  | .windowEnd lane => Sys2Proof.Machine.execWindowEnd lane s
  | .checkCompletion => Sys2Proof.Machine.execCheckCompletion s
  | .hotStageComplete => Sys2Proof.Machine.execHotStageComplete s
  | .rangeStageComplete => Sys2Proof.Machine.execRangeStageComplete s
  | .defaultStageComplete => Sys2Proof.Machine.execDefaultStageComplete s
  | .doctypeStageComplete => Sys2Proof.Machine.execDoctypeStageComplete s
  | .readyAsserted word => Sys2Proof.Machine.execReadyAsserted word s
  | .readTimeout => Sys2Proof.Machine.execReadTimeout s
  | .holdAsserted => Sys2Proof.Machine.execHoldAsserted s
  | .holdDeasserted => Sys2Proof.Machine.execHoldDeasserted s
  | .lengthError byte => Sys2Proof.Machine.execLengthError byte s
  | .gapAbandon => Sys2Proof.Machine.execGapAbandon s
  | .frameReceived byte => Sys2Proof.Machine.execFrameReceived byte s
  | .frameSent => Sys2Proof.Machine.execFrameSent s
  | .unknownRequest tag code => Sys2Proof.Machine.execUnknownRequest tag code s
  | .deviceStatus tag => Sys2Proof.Machine.execDeviceStatus tag s
  | .countersRead tag clear => Sys2Proof.Machine.execCountersRead tag clear s
  | .deviceReset tag => Sys2Proof.Machine.execDeviceReset tag s
  | .laneRun tag lane => Sys2Proof.Machine.execLaneRun tag lane s
  | .laneStop tag lane => Sys2Proof.Machine.execLaneStop tag lane s
  | .laneAbort tag lane => Sys2Proof.Machine.execLaneAbort tag lane s
  | .laneClear tag lane => Sys2Proof.Machine.execLaneClear tag lane s
  | .laneStatus tag lane => Sys2Proof.Machine.execLaneStatus tag lane s
  | .constantsWrite tag lane items => Sys2Proof.Machine.execConstantsWrite tag lane items s
  | .constantsRead tag lane => Sys2Proof.Machine.execConstantsRead tag lane s
  | .machineLock tag lane => Sys2Proof.Machine.execMachineLock tag lane s
  | .trackRead tag lane index => Sys2Proof.Machine.execTrackRead tag lane index s
  | .planOpen tag slot => Sys2Proof.Machine.execPlanOpen tag slot s
  | .loadFormats tag slot start items => Sys2Proof.Machine.execLoadFormats tag slot start items s
  | .loadRanges tag slot start items => Sys2Proof.Machine.execLoadRanges tag slot start items s
  | .loadClasses tag slot items => Sys2Proof.Machine.execLoadClasses tag slot items s
  | .loadDoctypes tag slot start items => Sys2Proof.Machine.execLoadDoctypes tag slot start items s
  | .loadSettings tag slot items => Sys2Proof.Machine.execLoadSettings tag slot items s
  | .planCheck tag slot => Sys2Proof.Machine.execPlanCheck tag slot s
  | .planSwitch tag slot => Sys2Proof.Machine.execPlanSwitch tag slot s
  | .planStatus tag => Sys2Proof.Machine.execPlanStatus tag s
  | .planRead tag slot table index => Sys2Proof.Machine.execPlanRead tag slot table index s
  | .hotAdd tag account cls => Sys2Proof.Machine.execHotAdd tag account cls s
  | .hotDelete tag account => Sys2Proof.Machine.execHotDelete tag account s
  | .hotClear tag => Sys2Proof.Machine.execHotClear tag s
  | .hotRead tag index => Sys2Proof.Machine.execHotRead tag index s
  | .directorySet tag base count wait => Sys2Proof.Machine.execDirectorySet tag base count wait s
  | .directoryStatus tag => Sys2Proof.Machine.execDirectoryStatus tag s
  | .query tag slot account doctype => Sys2Proof.Machine.execQuery tag slot account doctype s
  | .arbiterSet tag priority0 priority1 ageLimit => Sys2Proof.Machine.execArbiterSet tag priority0 priority1 ageLimit s
  | .lookupStatus tag => Sys2Proof.Machine.execLookupStatus tag s
  | .gateStatus tag lane => Sys2Proof.Machine.execGateStatus tag lane s
  | .binLimits tag lane bin capacity nearFull => Sys2Proof.Machine.execBinLimits tag lane bin capacity nearFull s
  | .binSwap tag lane bin => Sys2Proof.Machine.execBinSwap tag lane bin s
  | .binStatus tag lane => Sys2Proof.Machine.execBinStatus tag lane s
  | .gateRestore tag lane gate => Sys2Proof.Machine.execGateRestore tag lane gate s
  | .speedSet tag lane items => Sys2Proof.Machine.execSpeedSet tag lane items s
  | .alertClear tag lane => Sys2Proof.Machine.execAlertClear tag lane s
  | .speedRead tag lane => Sys2Proof.Machine.execSpeedRead tag lane s
  | .coldReset => Sys2Proof.Machine.execColdReset s
  | .resetRelease => Sys2Proof.Machine.execResetRelease s
  | .byteReceived byte => Sys2Proof.Machine.execByteReceived byte s
  | .readyDeasserted => Sys2Proof.Machine.execReadyDeasserted s

end Sys2Proof.Machine
end

