-- ==== Sys2Proof/Safety.lean ====
section
/-! DEFINITION. The terms the claims use: when a request is taken at once, and the invariants of the
part that its rules state of the whole machine. -/

namespace Sys2Proof.Machine

/-- The part takes a request in the event of its arrival: RESET is deasserted, no request waits in
the buffer, and the response queue has a free place (R194). -/
def State.TakesAtOnce (s : State) : Prop :=
  s.resetLine = false ∧ s.link.buffer = [] ∧ 0 < s.link.freePlaces

/-- The part takes events and no request waits to be taken with them. -/
def State.Quiet (s : State) : Prop := s.resetLine = false ∧ s.link.buffer = []

/-! ### Lanes -/

/-- What holds of a lane after every command. -/
structure Lane.Sound (L : Lane) : Prop where
  /-- The run line is asserted in STARTING, RUNNING and DRAINING and in no other state (R10). -/
  run : L.run = L.state.runs
  /-- The start timer runs in STARTING alone (R11, R12). -/
  startTimer : L.startTimer = true → L.state = .starting
  /-- The drain timer runs in DRAINING alone (R13, R14). -/
  drainTimer : L.drainTimer = true → L.state = .draining
  /-- A STOPPED lane has an empty track (1.5). -/
  stopped : L.state = .stopped → L.track = []
  /-- A track holds at most 64 records (R23). -/
  track : L.track.length ≤ Config.trackCapacity
  /-- A gate output is asserted exactly while its hold set is not empty (R146). -/
  gates : ∀ g : Gate, L.gateOut[g.val] = !(L.holds[g.val]).isEmpty
  /-- In a STOPPED or FAULTED lane every gate output is deasserted (R146). -/
  closed : (L.state = .stopped ∨ L.state = .faulted) → ∀ g : Gate, L.gateOut[g.val] = false
  /-- The SPEED ALERT output stands at the level of the alert mode (R181). -/
  alert : L.speed.line = L.speed.alertLevel
  /-- The latch is set in LATCH mode alone (R181). -/
  latch : L.speed.latch = true → L.speed.mode = .latch
  /-- In LATCH mode the latch is set while CRIT is set (R182). -/
  crit : L.speed.mode = .latch → L.speed.crit = true → L.speed.latch = true

/-- Both lanes are sound. -/
def State.LanesSound (s : State) : Prop := ∀ l, (s.lane l).Sound

/-! ### The plan store -/

/-- The slot states in which a slot holds no reference (R70). -/
def SlotState.unreferenced : SlotState → Bool
  | .empty => true
  | .loading => true
  | .checking => true
  | .ready => false
  | .active => false
  | .retiring => false

/-- What holds of a plan slot after every command: the counts stay within the capacities and the load
pointers within the counts (R64), and a slot that is EMPTY, LOADING or CHECKING has reference count 0
(R70). -/
structure PlanSlot.Sound (k : PlanSlot) : Prop where
  formats : k.formats.length ≤ Config.formatCapacity
  formatsPtr : k.formatsPtr ≤ k.formats.length
  ranges : k.ranges.length ≤ Config.rangeCapacity
  rangesPtr : k.rangesPtr ≤ k.ranges.length
  doctypes : k.doctypes.length ≤ Config.doctypeCapacity
  doctypesPtr : k.doctypesPtr ≤ k.doctypes.length
  refs : k.state.unreferenced = true → k.refs = 0

/-- The laws the plan store keeps (R64, R70, R78, R83). -/
structure State.PlanLaws (s : State) : Prop where
  slots : ∀ k, (s.slot k).Sound
  /-- At most one slot is ACTIVE. -/
  oneActive : ¬ (s.slot0.state = .active ∧ s.slot1.state = .active)
  /-- A slot is RETIRING only while the other is ACTIVE. -/
  retiring : ∀ k, (s.slot k).state = .retiring → (s.slot (otherSlot k)).state = .active
  /-- The checker is busy with a slot exactly while that slot is CHECKING. -/
  checker : ∀ k, (s.slot k).state = .checking ↔ s.checker.map Checker.slot = some k
  /-- A lane that takes letters finds an ACTIVE slot. -/
  stamp : ∀ l, (s.lane l).state.takes = true → s.activeSlot ≠ none

/-! ### The queues -/

/-- The QUERYs in hand: queued, or in progress in the engine (R193). -/
def LookupUnit.queries (u : LookupUnit) : Nat :=
  (u.queue.filter (fun r => match r.requester with
    | .query _ => true
    | .piece _ _ => false)).length +
  (match u.engine with
    | some ⟨⟨.query _, _, _, _, _⟩, _, _, _⟩ => 1
    | _ => 0)

/-- No queue exceeds its capacity, and every QUERY in hand has its response place. -/
structure State.QueuesBounded (s : State) : Prop where
  /-- R113. -/
  lookups : s.lookup.queue.length ≤ Config.lookupCapacity
  /-- R192. -/
  requests : s.link.buffer.length ≤ Config.bufferCapacity
  /-- R193. -/
  reserved : s.link.reserved = s.lookup.queries
  /-- R193. -/
  responses : s.link.responses.length + s.link.reserved ≤ Config.responsePlaces
  /-- R199. -/
  notices : s.link.notices.length ≤ Config.noticeCapacity
  /-- R199. -/
  lost : s.link.lostNotices ≤ 255
  /-- R199. -/
  dispositions : s.link.dispositions.length ≤ Config.dispositionCapacity

/-! ### The hot list -/

/-- At most 256 entries in strictly ascending account order, each account at most 999,999,999,999 and
each class 8 to 63 (R93). -/
def State.HotOrdered (s : State) : Prop :=
  s.hot.length ≤ Config.hotCapacity ∧
    s.hot.Pairwise (fun a b => a.account < b.account) ∧
    ∀ e ∈ s.hot, e.account ≤ Config.accountMax ∧ 8 ≤ e.cls ∧ e.cls ≤ 63

/-! ### The directory port -/

/-- What holds of the directory port after every command. -/
structure Directory.Sound (d : Directory) : Prop where
  /-- HOLD ACK is asserted in HELD and deasserted in every other state (R108). -/
  holdAck : d.holdAck = true ↔ d.port = .held
  /-- WANTED is asserted only in HELD (R108). -/
  wanted : d.wanted = true → d.port = .held
  /-- The part holds the RAM back only while the outside master asserts HOLD (R106, R107, R108). -/
  held : d.port = .held → d.holdLine = true
  /-- A search is in hand exactly in PROBING and YIELDING (5.4). -/
  search : d.search.isSome = true ↔ (d.port = .probing ∨ d.port = .yielding)
  /-- READ is asserted, and an address driven, exactly while a search is in hand (R103, R108). -/
  read : d.readLine = d.search.isSome
  address : d.address.isSome = d.search.isSome
  /-- The failed flag stands exactly while the consecutive timeout count is 2 (R104). -/
  failed : d.failed = true ↔ d.consecutive = 2
  /-- With the failed flag set no search is made (R104, R105). -/
  failedIdle : d.failed = true → d.search = none
  consecutive : d.consecutive ≤ 2
  timeouts : d.timeouts ≤ 65535

/-- The directory port is sound, and IDLE while RESET is asserted (R204). -/
structure State.PortSound (s : State) : Prop where
  port : s.dir.Sound
  reset : s.resetLine = true → s.dir.port = .idle

end Sys2Proof.Machine
end

