-- ==== Sys2Proof/WellFormed.lean ====
section
/-! DEFINITION. Which commands can be spelled on the part's lines: every request field fits the width
R197 gives its type, every list fits one frame of at most 300 bytes (R188, R195), and a position
event names a piece number 1 to 4,294,967,295 (R24). Ranges narrower than a field's width are the
owning block's test (BAD VALUE), not a matter of form. -/

namespace Sys2Proof.WellFormed

/-- A one-byte field (R197). -/
def byte (n : Nat) : Bool := n < 256
/-- A two-byte field (R197). -/
def half (n : Nat) : Bool := n < 65536
/-- A three-byte field (R197). -/
def three (n : Nat) : Bool := n < 16777216
/-- A five-byte account field (R197). -/
def five (n : Nat) : Bool := n < 1099511627776
/-- A piece number (R24). -/
def piece (n : Nat) : Bool := 1 ≤ n && n ≤ 4294967295
/-- An optional two-byte field: FFFFh carries its absence (R195). -/
def optional (n : Option Nat) : Bool := n.all (· < 65535)

/-- A list of items, `width` bytes each after `fixed` bytes of parameters and the count byte, that
fits the 296 parameter bytes of one request frame (R188, R195). -/
def fits (fixed width count : Nat) : Bool := fixed + 1 + width * count ≤ 296

/-- The fields of a CONSTANTS WRITE item (R198). -/
def constantItem (x : ConstantItem) : Bool := byte x.code && byte x.index && three x.value
/-- The fields of a SPEED SET item (R198). -/
def speedItem (x : SpeedItem) : Bool := byte x.code && half x.value
/-- The fields of a LOAD FORMATS item (R198). -/
def formatItem (x : FormatItem) : Bool :=
  byte x.number && byte x.pfxCount && byte x.codeLength && byte x.accountStart &&
    byte x.accountLength && byte x.doctypeStart && byte x.doctypeLength && byte x.scheme
/-- The fields of a LOAD RANGES item (R198). -/
def rangeItem (x : RangeItem) : Bool := five x.low && five x.high && byte x.cls
/-- The fields of a LOAD CLASSES item (R198). -/
def classItem (x : ClassItem) : Bool :=
  byte x.cls && byte x.defined && byte x.primary0 && byte x.overflow0 && byte x.primary1 &&
    byte x.overflow1
/-- The fields of a LOAD DOCTYPES item (R198). -/
def doctypeItem (x : DoctypeItem) : Bool := half x.doctype && byte x.cls && byte x.strength
/-- The fields of a LOAD SETTINGS item (R198). -/
def settingItem (x : SettingItem) : Bool := byte x.code && half x.value

/-- The request codes of the table of 10.6. -/
def requestCodes : List Nat :=
  [0x01, 0x02, 0x03, 0x10, 0x11, 0x12, 0x13, 0x14, 0x15, 0x16, 0x17, 0x20, 0x30, 0x31, 0x32, 0x33, 0x34,
    0x35, 0x36, 0x37, 0x38, 0x39, 0x40, 0x41, 0x42, 0x43, 0x48, 0x49, 0x50, 0x51, 0x52, 0x60, 0x68, 0x69,
    0x6A, 0x6B, 0x70, 0x71, 0x72]

/-- The command can be spelled on the part's lines. An UNKNOWN_REQUEST carries a code that is not in the
table of 10.6 (R194). -/
def instr : Instr → Bool
  | .encoderPulse _ => true
  | .leadingEdge _ => true
  | .trailingEdge _ => true
  | .forcedTrail _ p => piece p
  | .readClose _ p => piece p
  | .lastChance _ p => piece p
  | .fireEvent _ p => piece p
  | .releaseEvent _ _ p => piece p
  | .sensorArrival _ _ => true
  | .windowClose _ p => piece p
  | .runoutLeadingEdge _ => true
  | .runoutWindowClose _ p => piece p
  | .startTimeout _ => true
  | .drainTimeout _ => true
  | .windowEnd _ => true
  | .checkCompletion => true
  | .hotStageComplete => true
  | .rangeStageComplete => true
  | .defaultStageComplete => true
  | .doctypeStageComplete => true
  | .readyAsserted _ => true
  | .readTimeout => true
  | .holdAsserted => true
  | .holdDeasserted => true
  | .lengthError _ => true
  | .gapAbandon => true
  | .frameReceived _ => true
  | .frameSent => true
  | .unknownRequest t c => half t && byte c && !requestCodes.contains c
  | .deviceStatus t => half t
  | .countersRead t c => half t && byte c
  | .deviceReset t => half t
  | .laneRun t l => half t && byte l
  | .laneStop t l => half t && byte l
  | .laneAbort t l => half t && byte l
  | .laneClear t l => half t && byte l
  | .laneStatus t l => half t && byte l
  | .constantsWrite t l xs => half t && byte l && fits 1 5 xs.length && xs.all constantItem
  | .constantsRead t l => half t && byte l
  | .machineLock t l => half t && byte l
  | .trackRead t l i => half t && byte l && half i
  | .planOpen t n => half t && byte n
  | .loadFormats t n st xs =>
    half t && byte n && optional st && fits 3 12 xs.length && xs.all formatItem
  | .loadRanges t n st xs =>
    half t && byte n && optional st && fits 3 11 xs.length && xs.all rangeItem
  | .loadClasses t n xs => half t && byte n && fits 1 6 xs.length && xs.all classItem
  | .loadDoctypes t n st xs =>
    half t && byte n && optional st && fits 3 4 xs.length && xs.all doctypeItem
  | .loadSettings t n xs => half t && byte n && fits 1 3 xs.length && xs.all settingItem
  | .planCheck t n => half t && byte n
  | .planSwitch t n => half t && byte n
  | .planStatus t => half t
  | .planRead t n tab i => half t && byte n && byte tab && half i
  | .hotAdd t a c => half t && five a && byte c
  | .hotDelete t a => half t && five a
  | .hotClear t => half t
  | .hotRead t i => half t && half i
  | .directorySet t b n w => half t && three b && three n && byte w
  | .directoryStatus t => half t
  | .query t n a d => half t && byte n && five a && optional d
  | .arbiterSet t p q a => half t && byte p && byte q && byte a
  | .lookupStatus t => half t
  | .gateStatus t l => half t && byte l
  | .binLimits t l b c n => half t && byte l && byte b && half c && half n
  | .binSwap t l b => half t && byte l && byte b
  | .binStatus t l => half t && byte l
  | .gateRestore t l g => half t && byte l && byte g
  | .speedSet t l xs => half t && byte l && fits 1 3 xs.length && xs.all speedItem
  | .alertClear t l => half t && byte l
  | .speedRead t l => half t && byte l
  | .coldReset => true
  | .resetRelease => true
  | .byteReceived _ => true
  | .readyDeasserted => true

end Sys2Proof.WellFormed
end

