-- ==== Sys2Proof/Certificates/Slice0/Obligations.lean ====
section
/-! DEFINITION. The statements for the provers. A statement about an event is made of a state in which
RESET is deasserted and no request waits in the buffer (`State.Quiet`), a statement about a request
of a state that takes it in the event of its arrival (`State.TakesAtOnce`, assumption log 7); what the
end of an event does with waiting requests is stated of `State.settle` itself. -/

open Sys2Proof Sys2Proof.Machine

/-! ### The step -/

/-- The step takes the command at the front of the queue and runs it on the rest; with no command
waiting the block idles, which is the model's choice (assumption log 2). -/
def Obligations.StepTakesFrontCommand : Prop :=
  (∀ (c : Instr) (rest : List Instr) (s : State), s.pending = c :: rest →
    step s = exec c { s with pending := rest }) ∧
  (∀ s : State, s.pending = [] → step s = .next s)

/-- The queues of the sort link. A response joins the tail of its queue. The end of an event with no
request waiting: the idle transmitter takes the oldest response, else the oldest notice with the
lost count, else the oldest disposition; a busy one takes nothing. A notice raised with 16 waiting,
and a disposition offered with 64 waiting, is dropped and counted; else it joins the tail. A request
arriving with 4 waiting is dropped and counted; with no free response place it waits at the tail;
alone, with a free place, it is taken at once; and one that waits is taken when the start of a
response's transmission frees a place. (Its taking in the same step as the event is the model's
reading, assumption log 7.) -/
def Obligations.QueuesFillAndDrain : Prop :=
  (∀ (tag code : Nat) (st : Status) (results : Bytes) (s : State),
    s.answer tag code st results = { s with link := { s.link with
      responses := s.link.responses ++ [⟨tag, code, st, results⟩] } }) ∧
  (∀ s : State, s.link.buffer = [] →
    s.transmit = s.settle ∧
    (s.link.tx.isSome = true → s.settle = s) ∧
    (s.link.tx = none →
      (∀ r rs, s.link.responses = r :: rs →
        s.settle = { s with link := { s.link with tx := some (frame r.content), responses := rs } }) ∧
      (s.link.responses = [] →
        (∀ n ns, s.link.notices = n :: ns →
          s.settle = { s with link := { s.link with
            tx := some (frame (n.content s.link.lostNotices)), notices := ns, lostNotices := 0 } }) ∧
        (s.link.notices = [] →
          (∀ d ds, s.link.dispositions = d :: ds →
            s.settle = { s with link := { s.link with
              tx := some (frame d.content), dispositions := ds } }) ∧
          (s.link.dispositions = [] → s.settle = s))))) ∧
  (∀ (n : Notice) (s : State),
    (s.link.notices.length < 16 →
      s.raise n = { s with link := { s.link with notices := s.link.notices ++ [n] } }) ∧
    (16 ≤ s.link.notices.length →
      s.raise n = { s with link := { s.link with
        lostNotices := min 255 (s.link.lostNotices + 1)
        counters := { s.link.counters with noticesLost := s.link.counters.noticesLost + 1 } } })) ∧
  (∀ (d : Disposition) (s : State),
    (s.link.dispositions.length < 64 →
      s.offer d = { s with link := { s.link with dispositions := s.link.dispositions ++ [d] } }) ∧
    (64 ≤ s.link.dispositions.length →
      s.offer d = { s with link := { s.link with
        counters := { s.link.counters with
          dispositionDiscards := s.link.counters.dispositionDiscards + 1 } } })) ∧
  (∀ (tag : Nat) (r : Request) (s : State),
    (4 ≤ s.link.buffer.length →
      s.submit tag r = { s with link := { s.link with
        counters := { s.link.counters with
          bufferOverflows := s.link.counters.bufferOverflows + 1 } } }) ∧
    (s.link.buffer.length < 4 → 16 ≤ s.link.responses.length + s.link.reserved →
      s.submit tag r = { s with link := { s.link with buffer := s.link.buffer ++ [⟨tag, r⟩] } }) ∧
    (s.link.buffer = [] → s.link.responses.length + s.link.reserved < 16 →
      s.submit tag r = (s.perform tag r).transmit) ∧
    (∀ x xs, s.link.tx = none → s.link.buffer = [⟨tag, r⟩] → s.link.responses = x :: xs →
      s.link.responses.length + s.link.reserved = 16 →
      s.settle = ((({ s with link := { s.link with
        tx := some (frame x.content), responses := xs, buffer := [] } } : State).perform tag
          r).transmit)))

/-! ### Frames and resets -/

/-- The frames the part sends, byte by byte. A number stands in its field most significant byte
first, and NONE is all ones. A frame is A5h, 5Ah, the length, the kind and body, and the CRC of
length, kind and body: polynomial 1021h, initial value FFFFh. A response carries tag, code, status
and results; a notice its kind code, the lost count and its items; a disposition the 19 items of its
table, its flags in one byte. The enumerated items are coded from 1 in their rules' order. (The
codes of the flags and of a lookup state NONE are the model's reading, assumption log 29, and so is
the width of the consecutive count of a DIRECTORY notice, log 28.) -/
def Obligations.LinkFrameLayouts : Prop :=
  (∀ n v : Nat, (be n v).length = n ∧ num (be n v) = v % 256 ^ n ∧ optField n (some v) = be n v ∧
    optField n none = List.replicate n 0xFF#8 ∧ u8 v = be 1 v ∧ u16 v = be 2 v ∧ u24 v = be 3 v ∧
    u32 v = be 4 v ∧ u40 v = be 5 v ∧ bit true = [1#8] ∧ bit false = [0#8]) ∧
  (∀ ds : List Digit, optDigits none = [0#8] ∧
    optDigits (some ds) = u8 ds.length ++ ds.map (fun d => BitVec.ofNat 8 (0x30 + d.val))) ∧
  (crc16 [] = 0xFFFF#16 ∧ ∀ (bs : Bytes) (b : Byte), crc16 (bs ++ [b]) =
    (List.range 8).foldl (fun c _ => if c.msb then (c <<< 1) ^^^ 0x1021#16 else c <<< 1)
      (crc16 bs ^^^ (b.setWidth 16 <<< 8))) ∧
  (∀ content : Bytes, frame content = [0xA5#8, 0x5A#8] ++ (u16 content.length ++ content) ++
    u16 (crc16 (u16 content.length ++ content)).toNat) ∧
  (∀ r : Response,
    r.content = [0x41#8] ++ u16 r.tag ++ u8 r.code ++ u8 r.status.code ++ r.results) ∧
  (∀ (lost : Nat) (l : LaneId) (k : SlotId) (g : Gate),
    (∀ st c, (Notice.laneState l st c).content lost =
      [0x51#8, 1#8] ++ u8 lost ++ (u8 (laneNum l) ++ u8 st.code ++ u8 c.code)) ∧
    (∀ f set su, (Notice.speedFlag l f set su).content lost =
      [0x51#8, 2#8] ++ u8 lost ++ (u8 (laneNum l) ++ u8 f.code ++ bit set ++ u16 su)) ∧
    (∀ st c p, (Notice.binState l g st c p).content lost =
      [0x51#8, 3#8] ++ u8 lost ++ (u8 (laneNum l) ++ u8 (g.val + 1) ++ u8 st.code ++ u16 c ++ u16 p)) ∧
    (Notice.gateOut l g).content lost = [0x51#8, 4#8] ++ u8 lost ++ (u8 (laneNum l) ++ u8 (g.val + 1)) ∧
    (Notice.stray l (some g)).content lost =
      [0x51#8, 5#8] ++ u8 lost ++ (u8 (laneNum l) ++ u8 (g.val + 1)) ∧
    (Notice.stray l none).content lost = [0x51#8, 5#8] ++ u8 lost ++ (u8 (laneNum l) ++ [0#8]) ∧
    (Notice.planChecked k none).content lost =
      [0x51#8, 6#8] ++ u8 lost ++ (u8 (slotNum k) ++ [1#8] ++ [0#8, 0xFF#8, 0xFF#8, 0#8]) ∧
    (∀ e, (Notice.planChecked k (some e)).content lost = [0x51#8, 6#8] ++ u8 lost ++
      (u8 (slotNum k) ++ [2#8] ++ (u8 e.table.code ++ u16 e.index ++ u8 e.kind.code))) ∧
    (Notice.planRetired k).content lost = [0x51#8, 7#8] ++ u8 lost ++ u8 (slotNum k) ∧
    (∀ kd p f c t, (Notice.directory kd p f c t).content lost =
      [0x51#8, 8#8] ++ u8 lost ++ (u8 kd.code ++ u8 p.code ++ bit f ++ u16 c ++ u16 t))) ∧
  (∀ d : Disposition,
    d.content = [0x31#8] ++ u8 (laneNum d.lane) ++ u32 d.number ++ u24 d.lead.toNat ++
      optField 2 d.length ++ u8 (slotNum d.slot) ++ u16 d.label ++
      u8 ((d.outcome.map ReadOutcome.code).getD 0) ++
      optField 1 (d.outcome.bind ReadOutcome.formatNumber) ++ optField 5 (d.key.map Key.account) ++
      optField 2 (d.key.bind Key.doctype) ++ optField 1 d.cls ++
      u8 ((d.source.map LookupSource.code).getD 0) ++ optField 1 d.bin ++ u8 d.final.code ++
      u8 ((d.reason.map RouteReason.code).getD 0) ++ u8 d.flagsByte ++
      optDigits (d.outcome.bind ReadOutcome.codeString) ∧
    d.flagsByte < 256 ∧ (List.range 8).map (Nat.testBit d.flagsByte) = [d.overlong, d.notReady,
      d.contested, d.flags.hotUndefined, d.flags.dirUndefined, d.flags.dirFallback, d.fired,
      d.withdrawn]) ∧
  (∀ str n c, (ReadOutcome.resolved str n c).codeString = some str ∧
    (ReadOutcome.resolved str n c).formatNumber = some n ∧ (ReadOutcome.resolved str n c).code = 1) ∧
  (∀ o, o = ReadOutcome.noread ∨ o = .multi ∨ o = .checkfail ∨ o = .noformat →
    o.codeString = none ∧ o.formatNumber = none) ∧
  [ReadOutcome.noread, .multi, .checkfail, .noformat].map ReadOutcome.code = [2, 3, 4, 5] ∧
  [LaneState.stopped, .starting, .running, .draining, .faulted].map LaneState.code = [1, 2, 3, 4, 5] ∧
  [FaultCause.abort, .startTimeout, .drainTimeout, .trackFull, .jam].map FaultCause.code =
    [1, 2, 3, 4, 5] ∧
  [NoticeCause.run, .qualified, .startTimeout, .stop, .drained, .drainTimeout, .abort, .trackFull, .jam,
    .clear].map NoticeCause.code = [1, 2, 3, 4, 5, 6, 7, 8, 9, 10] ∧
  [Stage.entering, .reading, .deciding, .decided].map Stage.code = [1, 2, 3, 4] ∧
  [LookupState.none, .queued, .inProgress, .done, .withdrawn].map LookupState.code = [0, 1, 2, 3, 4] ∧
  [LookupSource.hot, .directory, .range, .default, .doctype, .service].map LookupSource.code =
    [1, 2, 3, 4, 5, 6] ∧
  [RouteState.unrouted, .armed, .fired, .captured, .runoutBound].map RouteState.code =
    [1, 2, 3, 4, 5] ∧
  [RouteReason.cls, .overflow, .binFull, .binAbsent, .gateOut, .late, .lateFinal, .gap, .speed, .captured,
    .notReady].map RouteReason.code = [1, 2, 3, 4, 5, 6, 7, 8, 9, 10, 11] ∧
  [FinalState.delivered, .unconfirmed, .arrived, .lost, .abandoned].map FinalState.code =
    [1, 2, 3, 4, 5] ∧
  [SlotState.empty, .loading, .checking, .ready, .active, .retiring].map SlotState.code =
    [1, 2, 3, 4, 5, 6] ∧
  [TableId.format, .range, .cls, .doctype, .settings].map TableId.code = [1, 2, 3, 4, 5] ∧
  [ErrorKind.formatField, .formatShadowed, .rangeInverted, .rangeOrder, .classUndefined,
    .doctypeDuplicate, .serviceUndefined].map ErrorKind.code = [1, 2, 3, 4, 5, 6, 7] ∧
  [PortState.idle, .probing, .yielding, .held].map PortState.code = [1, 2, 3, 4] ∧
  [DirectoryKind.timeout, .failed, .holdGranted, .holdReleased].map DirectoryKind.code = [1, 2, 3, 4] ∧
  [EngineStage.hot, .directory, .range, .default, .doctype].map EngineStage.code = [1, 2, 3, 4, 5] ∧
  [BinState.out, .full, .nearFull, .opened].map BinState.code = [1, 2, 3, 4] ∧
  [SpeedFlag.low, .high, .crit].map SpeedFlag.code = [1, 2, 3] ∧
  [CheckScheme.none, .mod10, .mod11].map CheckScheme.code = [1, 2, 3] ∧
  [Strength.strong, .weak].map Strength.code = [1, 2] ∧
  [ServiceRouting.builtIn, .plan].map ServiceRouting.code = [1, 2] ∧
  [DirectoryPolicy.fallback, .fault].map DirectoryPolicy.code = [1, 2] ∧
  [AlertMode.off, .level, .latch, .critOnly].map AlertMode.code = [1, 2, 3, 4] ∧
  [Status.done, .replaced, .busy, .protected_, .notOpen, .inUse, .notReady, .capacity, .badIndex, .full,
    .notFound, .badValue, .badLength, .unknownRequest, .locked, .laneActive, .noPlan, .badConstants,
    .draining, .faulted, .notFaulted].map Status.code = List.range 21

/-- COLD_RESET sets every block to its cold-reset values, whatever the state, and keeps only the
levels of the inputs and the queue of commands; the values of a lane with its constants, bins, speed
monitor and counters, of a slot, of the directory port, of the lookup queue and arbiter and of the
link are spelled out; RESET_RELEASE then starts the part with them, the directory port HELD exactly
if HOLD stands asserted; without RESET asserted it changes nothing. While RESET is asserted no other
command moves anything but the levels of the ENTRY, HOLD and READY inputs. (That the input levels
and the queue of commands go on under RESET is the model's reading, assumption log 9; the fields
jamPending and entryLine are the model's, logs 15 and 10.) -/
def Obligations.ResetInput : Prop :=
  (∀ s : State,
    exec .coldReset s = .next
      { lane0 := Lane.cold s.lane0.entryLine
        lane1 := Lane.cold s.lane1.entryLine
        slot0 := PlanSlot.fresh .empty
        slot1 := PlanSlot.fresh .empty
        checker := none
        hot := []
        dir := Directory.cold s.dir.holdLine s.dir.readyLine
        lookup := LookupUnit.cold
        link := Link.cold
        resetLine := true
        pending := s.pending } ∧
    (s.resetLine = true →
      exec .resetRelease s = .next { s with
        resetLine := false
        dir := { s.dir with
          port := if s.dir.holdLine then .held else .idle
          holdAck := s.dir.holdLine }
        link := { s.link with coldStart := true } }) ∧
    (s.resetLine = false → exec .resetRelease s = .next s)) ∧
  (∀ (c : Instr) (s : State), s.resetLine = true → c ≠ .coldReset → c ≠ .resetRelease →
    ∃ t, exec c s = .next t ∧
      (t = s ∨
        (∃ l v, (c = .leadingEdge l ∧ v = true ∨ c = .trailingEdge l ∧ v = false) ∧
          t = s.setLane l { s.lane l with entryLine := v }) ∨
        (∃ v, (c = .holdAsserted ∧ v = true ∨ c = .holdDeasserted ∧ v = false) ∧
          t = { s with dir := { s.dir with holdLine := v } }) ∨
        (∃ v, ((∃ w, c = .readyAsserted w) ∧ v = true ∨ c = .readyDeasserted ∧ v = false) ∧
          t = { s with dir := { s.dir with readyLine := v } }))) ∧
  (∀ entry : Bool, Lane.cold entry =
    { pos := 0
      constants :=
        { gateCount := 0
          gates := Vector.ofFn (fun g : Fin 12 => ⟨4000 * (g.val + 1), 0, 0, 400⟩)
          runoutDistance := 60000
          runoutWindow := 1000
          headCount := 0
          headOffset := #v[0, 0, 0, 0]
          halfWindow := 16
          readClose := 3000
          lengthMin := 40
          lengthMax := 2400
          guardMargin := 200
          speedFloor := 0
          missLimit := 2
          jamLimit := 3
          startLimit := 20
          drainLimit := 30 }
      lock := false
      state := .stopped
      run := false
      startTimer := false
      drainTimer := false
      lastCause := none
      jamPending := none
      nextPiece := 1
      track := []
      holds := Vector.replicate 12 []
      gateOut := Vector.replicate 12 false
      bins := Vector.replicate 12
        { confirmed := 0, capacity := 500, nearFull := 450, out := false, miss := 0 }
      runoutConfirmed := 0
      lostCount := 0
      speed :=
        { window := 16
          nextWindow := 16
          pulses := 0
          figure := 0
          lowLimit := 0
          highLimit := 16383
          critLimit := 16383
          hysteresis := 0
          low := false
          high := false
          crit := false
          mode := .level
          latch := false
          line := false
          qualification := 0 }
      counters := ⟨0, 0, 0, 0, 0, 0, 0, 0, 0, 0⟩
      entryLine := entry }) ∧
  PlanSlot.fresh .empty =
    { state := .empty
      refs := 0
      formats := []
      formatsPtr := 0
      ranges := []
      rangesPtr := 0
      classes := Vector.replicate 64 ⟨false, ⟨0, none⟩, ⟨0, none⟩⟩
      doctypes := []
      doctypesPtr := 0
      settings := ⟨8, .builtIn, false, .fallback, 0⟩
      lastCheck := .none } ∧
  (∀ hold ready : Bool, Directory.cold hold ready =
    { base := 0
      count := 0
      waitLimit := 20
      port := .idle
      search := none
      failed := false
      consecutive := 0
      timeouts := 0
      holdLine := hold
      readyLine := ready
      holdAck := false
      wanted := false
      readLine := false
      address := none }) ∧
  LookupUnit.cold =
    { queue := []
      nextArrival := 0
      priority0 := 2
      priority1 := 2
      ageLimit := 8
      passCount := 0
      engine := none } ∧
  Link.cold =
    { rx := .hunt
      buffer := []
      responses := []
      reserved := 0
      notices := []
      lostNotices := 0
      dispositions := []
      tx := none
      counters := ⟨0, 0, 0, 0, 0, 0, 0, 0, 0, 0⟩
      coldStart := true }

/-- DEVICE RESET: the tracks, the lookup queue and the link queues are emptied, the lanes are
STOPPED with run lines, timers, gates, speed figures and flags off, a check in hand is abandoned,
and plans, hot list, constants, counts and counters are kept; the response reports the records each
track held and the requests dropped from the buffer, and is the one response queued. It is taken in
the event of its arrival, or waits and is taken in the event that frees a response place, the
requests behind it being dropped. (The field jamPending is the model's, assumption log 15; the
taking of a waiting request in the same step is its reading, log 7.) -/
def Obligations.DeviceResetIsWarm : Prop :=
  (∀ (tag : Nat) (s : State), s.TakesAtOnce →
    exec (.deviceReset tag) s = .next (s.perform tag .deviceReset).transmit) ∧
  (∀ (tag : Nat) (behind : List BufferedRequest) (s : State) (x : Response) (xs : List Response),
    s.resetLine = false → s.link.tx.isSome = true → s.link.responses = x :: xs →
    s.link.responses.length + s.link.reserved = 16 →
    s.link.buffer = ⟨tag, .deviceReset⟩ :: behind →
    exec .frameSent s = .next (({ s with link := { s.link with
      tx := some (frame x.content), responses := xs, buffer := behind } } : State).perform tag
        .deviceReset)) ∧
  (∀ (tag : Nat) (s : State), ∃ u : State, s.perform tag .deviceReset = u ∧
      u.link = { s.link with
        buffer := []
        responses := [⟨tag, 0x03, .done,
          u16 s.lane0.track.length ++ u16 s.lane1.track.length ++ u16 s.link.buffer.length⟩]
        reserved := 0
        notices := []
        lostNotices := 0
        dispositions := [] } ∧
      u.hot = s.hot ∧ u.checker = none ∧ u.resetLine = s.resetLine ∧ u.pending = s.pending ∧
      u.lookup = { s.lookup with queue := [], engine := none, nextArrival := 0, passCount := 0 } ∧
      (∀ k, u.slot k = { s.slot k with
        refs := 0
        state := (match (s.slot k).state with
          | .checking => .loading
          | .retiring => .ready
          | st => st)
        lastCheck := (if (s.slot k).state = .checking then .abandoned else (s.slot k).lastCheck) }) ∧
      u.dir = { s.dir with
        search := none
        failed := false
        consecutive := 0
        timeouts := 0
        wanted := false
        readLine := false
        address := none
        port := if s.dir.holdLine then .held else .idle
        holdAck := s.dir.holdLine } ∧
      (∀ l, u.lane l = { s.lane l with
        state := .stopped
        run := false
        startTimer := false
        drainTimer := false
        jamPending := none
        track := []
        holds := Vector.replicate 12 []
        gateOut := Vector.replicate 12 false
        bins := (s.lane l).bins.map (fun b => { b with miss := 0 })
        lostCount := 0
        speed := { (s.lane l).speed with
          window := (s.lane l).speed.nextWindow
          pulses := 0
          figure := 0
          low := false
          high := false
          crit := false
          latch := false
          line := false
          qualification := 0 } }))

/-! ### Refusals -/

/-- A refused request changes no state: its response is all that is added. -/
def Obligations.RefusalChangesNothing : Prop :=
  ∀ (tag : Nat) (r : Request) (s : State) (x : Response),
    (s.perform tag r).link.responses = s.link.responses ++ [x] →
    x.status ≠ .done → x.status ≠ .replaced →
      s.perform tag r = { s with link := { s.link with responses := s.link.responses ++ [x] } }

/-- A request with a code that is not in the table of codes is answered UNKNOWN REQUEST (one with a
code of the table is taken as that request without parameters, assumption log 45); a lane request
naming a lane other than 0 or 1, and a plan request or a QUERY naming a slot other than 0 or 1, is
refused BAD VALUE; and nothing else changes. (That PLAN CHECK tests its slot number before the busy
checker is the model's reading, assumption log 46.) -/
def Obligations.MalformedRequestsRefused : Prop :=
  (∀ (tag code : Nat) (s : State), s.TakesAtOnce →
    (code ∉ WellFormed.requestCodes →
      exec (.unknownRequest tag code) s = .next (s.answer tag code .unknownRequest []).transmit) ∧
    (code ∈ WellFormed.requestCodes →
      exec (.unknownRequest tag code) s = .next (s.perform tag (parseRequest code [])).transmit)) ∧
  (∀ (tag lane : Nat) (s : State), s.TakesAtOnce → 2 ≤ lane →
    exec (.laneRun tag lane) s = .next (s.answer tag 0x10 .badValue []).transmit ∧
    exec (.laneStop tag lane) s = .next (s.answer tag 0x11 .badValue []).transmit ∧
    exec (.laneAbort tag lane) s = .next (s.answer tag 0x12 .badValue []).transmit ∧
    exec (.laneClear tag lane) s = .next (s.answer tag 0x13 .badValue []).transmit ∧
    exec (.laneStatus tag lane) s = .next (s.answer tag 0x14 .badValue []).transmit ∧
    (∀ xs, exec (.constantsWrite tag lane xs) s = .next (s.answer tag 0x15 .badValue []).transmit) ∧
    exec (.constantsRead tag lane) s = .next (s.answer tag 0x16 .badValue []).transmit ∧
    exec (.machineLock tag lane) s = .next (s.answer tag 0x17 .badValue []).transmit ∧
    (∀ i, exec (.trackRead tag lane i) s = .next (s.answer tag 0x20 .badValue []).transmit) ∧
    exec (.gateStatus tag lane) s = .next (s.answer tag 0x60 .badValue []).transmit ∧
    (∀ b c n, exec (.binLimits tag lane b c n) s =
      .next (s.answer tag 0x68 .badValue []).transmit) ∧
    (∀ b, exec (.binSwap tag lane b) s = .next (s.answer tag 0x69 .badValue []).transmit) ∧
    exec (.binStatus tag lane) s = .next (s.answer tag 0x6A .badValue []).transmit ∧
    (∀ g, exec (.gateRestore tag lane g) s = .next (s.answer tag 0x6B .badValue []).transmit) ∧
    (∀ xs, exec (.speedSet tag lane xs) s = .next (s.answer tag 0x70 .badValue []).transmit) ∧
    exec (.alertClear tag lane) s = .next (s.answer tag 0x71 .badValue []).transmit ∧
    exec (.speedRead tag lane) s = .next (s.answer tag 0x72 .badValue []).transmit) ∧
  (∀ (tag slot : Nat) (s : State), s.TakesAtOnce → 2 ≤ slot →
    exec (.planOpen tag slot) s = .next (s.answer tag 0x30 .badValue []).transmit ∧
    (∀ st xs, exec (.loadFormats tag slot st xs) s =
      .next (s.answer tag 0x31 .badValue []).transmit) ∧
    (∀ st xs, exec (.loadRanges tag slot st xs) s =
      .next (s.answer tag 0x32 .badValue []).transmit) ∧
    (∀ xs, exec (.loadClasses tag slot xs) s = .next (s.answer tag 0x33 .badValue []).transmit) ∧
    (∀ st xs, exec (.loadDoctypes tag slot st xs) s =
      .next (s.answer tag 0x34 .badValue []).transmit) ∧
    (∀ xs, exec (.loadSettings tag slot xs) s = .next (s.answer tag 0x35 .badValue []).transmit) ∧
    exec (.planCheck tag slot) s = .next (s.answer tag 0x36 .badValue []).transmit ∧
    exec (.planSwitch tag slot) s = .next (s.answer tag 0x37 .badValue []).transmit ∧
    (∀ t i, exec (.planRead tag slot t i) s = .next (s.answer tag 0x39 .badValue []).transmit) ∧
    (∀ a d, exec (.query tag slot a d) s = .next (s.answer tag 0x50 .badValue []).transmit))

/-- A request's parameters. A code outside the table makes an unknown request, answered UNKNOWN
REQUEST. Parameters longer or shorter than the code requires (its fixed fields, and for a list the
count byte and as many items of the item width) make one answered BAD LENGTH. Those of the required
length make the request of their code, each field read most significant byte first at its place, a
start index or doctype of FFFFh being absent. -/
def Obligations.RequestParametersParsed : Prop :=
  (∀ (tag code : Nat) (s : State),
    s.perform tag (.unknown code) = s.answer tag code .unknownRequest [] ∧
    s.perform tag (.badLength code) = s.answer tag code .badLength []) ∧
  (∀ (code : Nat) (ps : Bytes), code ∉ WellFormed.requestCodes → parseRequest code ps = .unknown code) ∧
  (∀ (code fixed : Nat) (ps : Bytes),
    (code, fixed) ∈ [(0x01, 0), (0x02, 1), (0x03, 0), (0x10, 1), (0x11, 1), (0x12, 1), (0x13, 1), (0x14, 1),
      (0x16, 1), (0x17, 1), (0x20, 3), (0x30, 1), (0x36, 1), (0x37, 1), (0x38, 0), (0x39, 4), (0x40, 6),
      (0x41, 5), (0x42, 0), (0x43, 2), (0x48, 7), (0x49, 0), (0x50, 8), (0x51, 3), (0x52, 0), (0x60, 1),
      (0x68, 6), (0x69, 2), (0x6A, 1), (0x6B, 2), (0x71, 1), (0x72, 1)] →
    ps.length ≠ fixed → parseRequest code ps = .badLength code) ∧
  (∀ (code fixed width : Nat) (ps : Bytes),
    (code, fixed, width) ∈ [(0x15, 1, 5), (0x31, 3, 12), (0x32, 3, 11), (0x33, 1, 6), (0x34, 3, 4),
      (0x35, 1, 3), (0x70, 1, 3)] →
    (ps.length ≤ fixed ∨ ∃ (before : Bytes) (count : Byte) (items : Bytes), ps = before ++ count :: items ∧
      before.length = fixed ∧ items.length ≠ width * count.toNat) →
    parseRequest code ps = .badLength code) ∧
  (parseRequest 0x01 [] = .deviceStatus ∧ parseRequest 0x03 [] = .deviceReset ∧
    parseRequest 0x38 [] = .planStatus ∧ parseRequest 0x42 [] = .hotClear ∧
    parseRequest 0x49 [] = .directoryStatus ∧ parseRequest 0x52 [] = .lookupStatus) ∧
  (∀ x y z h h' b b' a : Nat, x < 256 → y < 256 → z < 256 → h < 65536 → h' < 65536 → b < 16777216 →
    b' < 16777216 → a < 1099511627776 →
    parseRequest 0x02 (u8 x) = .countersRead x ∧
    parseRequest 0x10 (u8 x) = .laneRun x ∧ parseRequest 0x11 (u8 x) = .laneStop x ∧
    parseRequest 0x12 (u8 x) = .laneAbort x ∧ parseRequest 0x13 (u8 x) = .laneClear x ∧
    parseRequest 0x14 (u8 x) = .laneStatus x ∧ parseRequest 0x16 (u8 x) = .constantsRead x ∧
    parseRequest 0x17 (u8 x) = .machineLock x ∧ parseRequest 0x20 (u8 x ++ u16 h) = .trackRead x h ∧
    parseRequest 0x30 (u8 x) = .planOpen x ∧ parseRequest 0x36 (u8 x) = .planCheck x ∧
    parseRequest 0x37 (u8 x) = .planSwitch x ∧
    parseRequest 0x39 (u8 x ++ u8 y ++ u16 h) = .planRead x y h ∧
    parseRequest 0x40 (u40 a ++ u8 x) = .hotAdd a x ∧ parseRequest 0x41 (u40 a) = .hotDelete a ∧
    parseRequest 0x43 (u16 h) = .hotRead h ∧
    parseRequest 0x48 (u24 b ++ u24 b' ++ u8 x) = .directorySet b b' x ∧
    parseRequest 0x50 (u8 x ++ u40 a ++ u16 h) = .query x a (if h = 65535 then none else some h) ∧
    parseRequest 0x51 (u8 x ++ u8 y ++ u8 z) = .arbiterSet x y z ∧
    parseRequest 0x60 (u8 x) = .gateStatus x ∧
    parseRequest 0x68 (u8 x ++ u8 y ++ u16 h ++ u16 h') = .binLimits x y h h' ∧
    parseRequest 0x69 (u8 x ++ u8 y) = .binSwap x y ∧ parseRequest 0x6A (u8 x) = .binStatus x ∧
    parseRequest 0x6B (u8 x ++ u8 y) = .gateRestore x y ∧
    parseRequest 0x71 (u8 x) = .alertClear x ∧ parseRequest 0x72 (u8 x) = .speedRead x) ∧
  (∀ x h : Nat, x < 256 → h < 65536 →
    (∀ is : List ConstantItem, is.length < 256 → (∀ i ∈ is, WellFormed.constantItem i = true) →
      parseRequest 0x15 (u8 x ++ u8 is.length ++ is.flatMap (fun i =>
        u8 i.code ++ u8 i.index ++ u24 i.value)) = .constantsWrite x is) ∧
    (∀ is : List FormatItem, is.length < 256 → (∀ i ∈ is, WellFormed.formatItem i = true) →
      parseRequest 0x31 (u8 x ++ u16 h ++ u8 is.length ++ is.flatMap (fun i =>
        u8 i.number ++ u8 i.pfxCount ++ [i.pfx1, i.pfx2, i.pfx3, i.pfx4] ++ u8 i.codeLength ++
          u8 i.accountStart ++ u8 i.accountLength ++ u8 i.doctypeStart ++ u8 i.doctypeLength ++
          u8 i.scheme)) = .loadFormats x (if h = 65535 then none else some h) is) ∧
    (∀ is : List RangeItem, is.length < 256 → (∀ i ∈ is, WellFormed.rangeItem i = true) →
      parseRequest 0x32 (u8 x ++ u16 h ++ u8 is.length ++ is.flatMap (fun i =>
        u40 i.low ++ u40 i.high ++ u8 i.cls)) = .loadRanges x (if h = 65535 then none else some h) is) ∧
    (∀ is : List ClassItem, is.length < 256 → (∀ i ∈ is, WellFormed.classItem i = true) →
      parseRequest 0x33 (u8 x ++ u8 is.length ++ is.flatMap (fun i =>
        u8 i.cls ++ u8 i.defined ++ u8 i.primary0 ++ u8 i.overflow0 ++ u8 i.primary1 ++
          u8 i.overflow1)) = .loadClasses x is) ∧
    (∀ is : List DoctypeItem, is.length < 256 → (∀ i ∈ is, WellFormed.doctypeItem i = true) →
      parseRequest 0x34 (u8 x ++ u16 h ++ u8 is.length ++ is.flatMap (fun i =>
        u16 i.doctype ++ u8 i.cls ++ u8 i.strength)) =
          .loadDoctypes x (if h = 65535 then none else some h) is) ∧
    (∀ is : List SettingItem, is.length < 256 → (∀ i ∈ is, WellFormed.settingItem i = true) →
      parseRequest 0x35 (u8 x ++ u8 is.length ++ is.flatMap (fun i => u8 i.code ++ u16 i.value)) =
        .loadSettings x is) ∧
    (∀ is : List SpeedItem, is.length < 256 → (∀ i ∈ is, WellFormed.speedItem i = true) →
      parseRequest 0x70 (u8 x ++ u8 is.length ++ is.flatMap (fun i => u8 i.code ++ u16 i.value)) =
        .speedSet x is))

/-! ### Lanes -/

/-- LANE RUN by lane state: in STOPPED it is refused NO PLAN without an ACTIVE slot, else BAD
CONSTANTS when the consistency test fails, else the lane enters STARTING with the run line asserted,
the start timer running and the qualification count 0; in STARTING and RUNNING it is DONE without
effect; in DRAINING and FAULTED it is refused. LANE STOP by lane state: from STARTING or RUNNING the
lane enters DRAINING with the drain timer running and the start timer stopped, and at once STOPPED
with every hold dropped when its track is empty; in DRAINING and STOPPED it is DONE without effect;
in FAULTED it is refused. (That BAD CONSTANTS names the item so is the model's reading, assumption
log 26.) -/
def Obligations.LaneRunAndStopByState : Prop :=
  (∀ s : State, (s.activeSlot = none ↔ ∀ k, (s.slot k).state ≠ .active) ∧
    (∀ k, s.activeSlot = some k → (s.slot k).state = .active)) ∧
  (∀ (tag lane : Nat) (l : LaneId) (s : State), s.TakesAtOnce → laneOf lane = some l →
    ((s.lane l).state = .stopped →
      (s.activeSlot = none →
        exec (.laneRun tag lane) s = .next (s.answer tag 0x10 .noPlan []).transmit) ∧
      (s.activeSlot ≠ none →
        (∀ x, (s.lane l).constants.inconsistency = some x →
          exec (.laneRun tag lane) s =
            .next (s.answer tag 0x10 .badConstants (u8 x.item ++ optField 2 x.index)).transmit) ∧
        ((s.lane l).constants.inconsistency = none →
          exec (.laneRun tag lane) s =
            .next ((((s.setLane l { s.lane l with
              state := .starting
              run := true
              startTimer := true
              speed := { (s.lane l).speed with qualification := 0 } }).raise
                (.laneState l .starting .run)).answer tag 0x10 .done []).transmit)))) ∧
    ((s.lane l).state = .starting ∨ (s.lane l).state = .running →
      exec (.laneRun tag lane) s = .next (s.answer tag 0x10 .done []).transmit) ∧
    ((s.lane l).state = .draining →
      exec (.laneRun tag lane) s = .next (s.answer tag 0x10 .draining []).transmit) ∧
    ((s.lane l).state = .faulted →
      exec (.laneRun tag lane) s = .next (s.answer tag 0x10 .faulted []).transmit)) ∧
  (∀ (tag lane : Nat) (l : LaneId) (s : State), s.TakesAtOnce → laneOf lane = some l →
    ((s.lane l).state = .starting ∨ (s.lane l).state = .running →
      ((s.lane l).track ≠ [] →
        exec (.laneStop tag lane) s = .next ((((s.setLane l { s.lane l with
          state := .draining
          run := true
          startTimer := false
          drainTimer := true }).raise (.laneState l .draining .stop)).answer tag 0x11 .done
            []).transmit)) ∧
      ((s.lane l).track = [] →
        exec (.laneStop tag lane) s = .next (((((s.setLane l { s.lane l with
          state := .stopped
          run := false
          startTimer := false
          drainTimer := false
          holds := Vector.replicate 12 []
          gateOut := Vector.replicate 12 false }).raise (.laneState l .draining .stop)).raise
            (.laneState l .stopped .drained)).answer tag 0x11 .done []).transmit))) ∧
    ((s.lane l).state = .draining ∨ (s.lane l).state = .stopped →
      exec (.laneStop tag lane) s = .next (s.answer tag 0x11 .done []).transmit) ∧
    ((s.lane l).state = .faulted →
      exec (.laneStop tag lane) s = .next (s.answer tag 0x11 .faulted []).transmit))

/-- Positions are compared and summed by forward distance, mod 16,777,216. A pulse on a lane's
ENCODER input, in every lane state: the position advances by one mod 16,777,216, the window pulse
count rises and stops at 1,048,575, and nothing else changes. -/
def Obligations.PositionsAndPulses : Prop :=
  (∀ (q p : Position) (d : Nat),
    fwd q p = (p.toNat + (16777216 - q.toNat)) % 16777216 ∧
    (reached q p = true ↔ fwd q p ≤ 8388607) ∧
    (past q p = true ↔ 1 ≤ fwd q p ∧ fwd q p ≤ 8388607) ∧
    (ahead q d).toNat = (q.toNat + d) % 16777216 ∧
    fwd q (ahead q d) = d % 16777216 ∧ fwd (behind p d) p = d % 16777216) ∧
  (∀ (l : LaneId) (s : State), s.resetLine = false →
    exec (.encoderPulse l) s = .next (s.setLane l { s.lane l with
      pos := BitVec.ofNat 24 (((s.lane l).pos.toNat + 1) % 16777216)
      speed := { (s.lane l).speed with pulses := min 1048575 ((s.lane l).speed.pulses + 1) } }))

/-- LANE ABORT: in STARTING, RUNNING and DRAINING the lane enters FAULTED with cause ABORT and the
request is DONE; in STOPPED and FAULTED it is DONE and changes nothing, the recorded cause kept. -/
def Obligations.LaneAbortFaults : Prop :=
  ∀ (tag lane : Nat) (l : LaneId) (s : State), s.TakesAtOnce → laneOf lane = some l →
    ((s.lane l).state = .starting ∨ (s.lane l).state = .running ∨ (s.lane l).state = .draining →
      exec (.laneAbort tag lane) s =
        .next (((s.enterFaulted l .abort).answer tag 0x12 .done []).transmit) ∧
      ((s.enterFaulted l .abort).lane l).state = .faulted ∧
      ((s.enterFaulted l .abort).lane l).lastCause = some .abort) ∧
    ((s.lane l).state = .stopped ∨ (s.lane l).state = .faulted →
      exec (.laneAbort tag lane) s = .next (s.answer tag 0x12 .done []).transmit)

/-- What entering FAULTED does to the part: the lane is FAULTED with the cause recorded, run line
and timers off, every hold dropped and every gate output deasserted. The lane's queued requests are
withdrawn: each one's record becomes WITHDRAWN and DECIDED without a class and releases its
reference, in queue order; the other requests keep their order, and the pass count is kept, or
becomes 0 where the oldest request was the lane's. The position, the speed monitor, the bins, the
counters and the other lane are as they were, and the LANE STATE notice is the last one raised.
START_TIMEOUT and DRAIN_TIMEOUT: a running timer's expiry faults the lane with its cause; in any
other state of lane or timer the expiry does not happen. (The model's readings: that LANE STATE
comes last, and that an expiry out of place changes nothing, assumption logs 17 and 4; and that a
JAM report waiting in the model's field jamPending is dropped with the entry, log 15.) -/
def Obligations.FaultEntryAndTimers : Prop :=
  (∀ (l : LaneId) (c : FaultCause) (s : State) (ofLane : LookupRequest → Bool) (gone : List Piece),
    (∀ r, ofLane r = true ↔ ∃ n, r.requester = .piece l n) →
    gone = s.lookup.queue.filterMap (fun r => match r.requester with
      | .piece l' n => if l' = l then (s.lane l).piece n else none
      | .query _ => none) →
    ∃ u : State,
    s.enterFaulted l c = u.raise (.laneState l .faulted c.notice) ∧
    { u.lane l with track := (s.lane l).track } = { s.lane l with
      state := .faulted
      run := false
      startTimer := false
      drainTimer := false
      jamPending := none
      lastCause := some c
      holds := Vector.replicate 12 []
      gateOut := Vector.replicate 12 false } ∧
    (u.lane l).track = (s.lane l).track.map (fun p =>
      if s.lookup.queue.any (fun r => r.requester = .piece l p.number) then
        { p with lookup := .withdrawn, stage := .decided }
      else p) ∧
    (∀ l', l' ≠ l → u.lane l' = s.lane l') ∧
    u.lookup = { s.lookup with
      queue := s.lookup.queue.filter (fun r => !ofLane r)
      passCount := if s.lookup.queue.head?.any ofLane then 0 else s.lookup.passCount } ∧
    (∀ k, u.slot k = (gone.foldl (fun v p => v.releaseRef p.slot) s).slot k) ∧
    u.link = (gone.foldl (fun v p => v.releaseRef p.slot) s).link ∧
    u.link.dispositions = s.link.dispositions ∧ u.link.responses = s.link.responses ∧
    u.hot = s.hot ∧ u.dir = s.dir ∧ u.checker = s.checker) ∧
  (∀ (l : LaneId) (s : State), s.Quiet →
    ((s.lane l).state = .starting → (s.lane l).startTimer = true →
      exec (.startTimeout l) s = .next (s.enterFaulted l .startTimeout).transmit) ∧
    (((s.lane l).state ≠ .starting ∨ (s.lane l).startTimer = false) →
      exec (.startTimeout l) s = .next s.transmit) ∧
    ((s.lane l).state = .draining → (s.lane l).drainTimer = true →
      exec (.drainTimeout l) s = .next (s.enterFaulted l .drainTimeout).transmit) ∧
    (((s.lane l).state ≠ .draining ∨ (s.lane l).drainTimer = false) →
      exec (.drainTimeout l) s = .next s.transmit))

/-- LANE CLEAR: in FAULTED the records are finalized ABANDONED from the oldest, the lost count
becomes 0, the bins are derived and the lane is STOPPED with an empty track and cause kept; in any
other state it is refused NOT FAULTED. (The place of the BIN STATE notices is the model's reading,
assumption log 18.) -/
def Obligations.LaneClearAbandons : Prop :=
  ∀ (tag lane : Nat) (l : LaneId) (s : State), s.TakesAtOnce → laneOf lane = some l →
    ((s.lane l).state = .faulted → ∃ u : State,
      exec (.laneClear tag lane) s = .next ((u.answer tag 0x13 .done []).transmit) ∧
      u = (((((s.lane l).track.foldl (fun v p => v.finalize l p .abandoned) s).modLane l
        (fun L => { L with lostCount := 0 })).deriveBins l (s.lane l)).modLane l
          (fun L => { L with state := .stopped, run := false })).raise (.laneState l .stopped .clear) ∧
      u.lane l = { s.lane l with
        state := .stopped
        run := false
        track := []
        lostCount := 0 } ∧
      (∀ l', l' ≠ l → u.lane l' = s.lane l')) ∧
    ((s.lane l).state ≠ .faulted →
      exec (.laneClear tag lane) s = .next (s.answer tag 0x13 .notFaulted []).transmit)

/-- CONSTANTS WRITE: refused LANE ACTIVE off STOPPED, then LOCKED, then BAD VALUE for the first item
out of range by code and index; else every item is written in list order and nothing else changes.
The codes, their ranges of value and index, and the constant each code writes are spelled out.
MACHINE LOCK sets the lane's machine lock in every lane state and changes nothing else. (That the
index is named as carried where its code ignores it, and that LENGTH MIN keeps the range of R5
against the example of 1.2.2, are the model's readings, assumption logs 26 and 47.) -/
def Obligations.ConstantsWriteAndLock : Prop :=
  (∀ (tag lane : Nat) (items : List ConstantItem) (l : LaneId) (s : State),
    s.TakesAtOnce → laneOf lane = some l →
    ((s.lane l).state ≠ .stopped →
      exec (.constantsWrite tag lane items) s = .next (s.answer tag 0x15 .laneActive []).transmit) ∧
    ((s.lane l).state = .stopped → (s.lane l).lock = true →
      exec (.constantsWrite tag lane items) s = .next (s.answer tag 0x15 .locked []).transmit) ∧
    ((s.lane l).state = .stopped → (s.lane l).lock = false →
      (∀ before x after, items = before ++ x :: after →
        (∀ y ∈ before, constantItemOk y = true) → constantItemOk x = false →
        exec (.constantsWrite tag lane items) s =
          .next (s.answer tag 0x15 .badValue (u8 x.code ++ u16 x.index)).transmit) ∧
      ((∀ y ∈ items, constantItemOk y = true) →
        exec (.constantsWrite tag lane items) s = .next (((s.setLane l { s.lane l with
          constants := items.foldl Constants.write (s.lane l).constants }).answer tag 0x15 .done
            []).transmit)))) ∧
  (∀ (tag lane : Nat) (l : LaneId) (s : State), s.TakesAtOnce → laneOf lane = some l →
    exec (.machineLock tag lane) s =
      .next (((s.setLane l { s.lane l with lock := true }).answer tag 0x17 .done []).transmit)) ∧
  (∀ x : ConstantItem, constantItemOk x = true ↔
    (∃ low high, (x.code, low, high) ∈ [(1, 0, 12), (2, 1, 1048575), (3, 0, 20000), (4, 0, 4095),
      (5, 1, 65535), (6, 1, 1048575), (7, 1, 65535), (8, 0, 4), (9, 0, 65535), (10, 0, 255),
      (11, 1, 1048575), (12, 1, 255), (13, 1, 4095), (14, 0, 65535), (15, 0, 16383), (16, 1, 7),
      (17, 1, 15), (18, 1, 60), (19, 1, 120)] ∧ low ≤ x.value ∧ x.value ≤ high) ∧
    (2 ≤ x.code → x.code ≤ 5 → 1 ≤ x.index ∧ x.index ≤ 12) ∧ (x.code = 9 → x.index ≤ 3)) ∧
  (∀ (c : Constants) (i v : Nat),
    c.write ⟨1, i, v⟩ = { c with gateCount := v } ∧
    (∀ (g : Gate) (k : GateConstants), k = c.gates[g.val] →
      c.write ⟨2, g.val + 1, v⟩ = { c with gates := c.gates.set g.val { k with distance := v } } ∧
      c.write ⟨3, g.val + 1, v⟩ = { c with gates := c.gates.set g.val { k with leadTime := v } } ∧
      c.write ⟨4, g.val + 1, v⟩ = { c with gates := c.gates.set g.val { k with dwell := v } } ∧
      c.write ⟨5, g.val + 1, v⟩ = { c with gates := c.gates.set g.val { k with confirm := v } }) ∧
    c.write ⟨6, i, v⟩ = { c with runoutDistance := v } ∧
    c.write ⟨7, i, v⟩ = { c with runoutWindow := v } ∧
    c.write ⟨8, i, v⟩ = { c with headCount := v } ∧
    (∀ h : HeadId, c.write ⟨9, h.val, v⟩ = { c with headOffset := c.headOffset.set h.val v }) ∧
    c.write ⟨10, i, v⟩ = { c with halfWindow := v } ∧
    c.write ⟨11, i, v⟩ = { c with readClose := v } ∧
    c.write ⟨12, i, v⟩ = { c with lengthMin := v } ∧
    c.write ⟨13, i, v⟩ = { c with lengthMax := v } ∧
    c.write ⟨14, i, v⟩ = { c with guardMargin := v } ∧
    c.write ⟨15, i, v⟩ = { c with speedFloor := v } ∧
    c.write ⟨16, i, v⟩ = { c with missLimit := v } ∧
    c.write ⟨17, i, v⟩ = { c with jamLimit := v } ∧
    c.write ⟨18, i, v⟩ = { c with startLimit := v } ∧
    c.write ⟨19, i, v⟩ = { c with drainLimit := v })

/-- The consistency test passes exactly when its seven conditions hold. When one fails, the outcome
is the first that fails in their order, with the item it names: GATE COUNT for condition 1, GATE
DISTANCE with the lowest failing gate for 2, RUNOUT DISTANCE for 3, LENGTH MAX for 4 and READ CLOSE
for 5, 6 and 7. -/
def Obligations.ConsistencyTestConditions : Prop :=
  (∀ (c : Constants) (g : Gate), c.distance (g.val + 1) = c.gates[g.val].distance) ∧
  ∀ c : Constants, c.gateCount ≤ 12 → c.headCount ≤ 4 →
    (c.inconsistency = none ↔
      1 ≤ c.gateCount ∧
      (∀ g : Nat, 2 ≤ g → g ≤ c.gateCount → c.distance (g - 1) < c.distance g) ∧
      c.distance c.gateCount < c.runoutDistance ∧
      c.lengthMin ≤ c.lengthMax ∧
      c.lengthMax ≤ c.readClose ∧
      (∀ h : HeadId, h.val < c.headCount → c.headOffset[h.val] + c.halfWindow ≤ c.readClose) ∧
      c.halfWindow ≤ c.readClose ∧
      c.readClose + c.guardMargin < c.distance 1) ∧
    (∀ holds : Nat → Prop,
      (holds 1 ↔ 1 ≤ c.gateCount) →
      (holds 2 ↔ ∀ g : Nat, 2 ≤ g → g ≤ c.gateCount → c.distance (g - 1) < c.distance g) →
      (holds 3 ↔ c.distance c.gateCount < c.runoutDistance) →
      (holds 4 ↔ c.lengthMin ≤ c.lengthMax) →
      (holds 5 ↔ c.lengthMax ≤ c.readClose) →
      (holds 6 ↔ (∀ h : HeadId, h.val < c.headCount →
        c.headOffset[h.val] + c.halfWindow ≤ c.readClose) ∧ c.halfWindow ≤ c.readClose) →
      (holds 7 ↔ c.readClose + c.guardMargin < c.distance 1) →
      (∀ n item : Nat, (n, item) ∈ [(1, 1), (3, 6), (4, 13), (5, 11), (6, 11), (7, 11)] →
        (∀ m, 1 ≤ m → m < n → holds m) → ¬ holds n → c.inconsistency = some ⟨n, item, none⟩) ∧
      (∀ g : Nat, 2 ≤ g → g ≤ c.gateCount → ¬ c.distance (g - 1) < c.distance g →
        (∀ g' : Nat, 2 ≤ g' → g' < g → c.distance (g' - 1) < c.distance g') →
        c.inconsistency = some ⟨2, 2, some g⟩))

/-- LANE STATUS, CONSTANTS READ, TRACK READ, GATE STATUS, BIN STATUS and SPEED READ report a lane
and change no state: the response is all they add. Their results are spelled out field by field.
(Some layouts, widths and the levels of the lines are the model's reading, assumption logs 26, 27,
29, 30, 32, 37 and 41; the pulse count of SPEED READ above 65,535 is a free value, log 6, and the
statement holds for every value of it.) -/
def Obligations.LaneReportsChangeNothing : Prop :=
  (∀ (tag lane : Nat) (l : LaneId) (s : State), s.TakesAtOnce → laneOf lane = some l →
    exec (.laneStatus tag lane) s = .next (s.answer tag 0x14 .done
      (u8 (s.lane l).state.code ++ u8 (((s.lane l).lastCause.map FaultCause.code).getD 0) ++
        u16 (s.lane l).track.length ++ posField (s.lane l).pos ++ u16 (s.lane l).speed.figure ++
        bit (s.lane l).speed.low ++ bit (s.lane l).speed.high ++ bit (s.lane l).speed.crit ++
        bit (s.lane l).speed.line ++ bit (s.lane l).lock ++
        u16 (s.lane l).counters.entriesStopped.toNat)).transmit ∧
    exec (.constantsRead tag lane) s = .next (s.answer tag 0x16 .done
      ((s.lane l).constants.fields ++ bit (s.lane l).lock ++
        outcomeFields (s.lane l).constants.inconsistency)).transmit ∧
    (∀ i p, (s.lane l).track[i]? = some p →
      exec (.trackRead tag lane i) s = .next (s.answer tag 0x20 .done
        (u16 (s.lane l).track.length ++ p.fields)).transmit) ∧
    (∀ i, (s.lane l).track.length ≤ i →
      exec (.trackRead tag lane i) s = .next (s.answer tag 0x20 .badIndex
        (u16 (s.lane l).track.length)).transmit) ∧
    exec (.gateStatus tag lane) s = .next (s.answer tag 0x60 .done
      (allGates.flatMap (s.lane l).gateFields ++
        u16 (max (s.lane l).speed.figure (s.lane l).constants.speedFloor))).transmit ∧
    exec (.binStatus tag lane) s = .next (s.answer tag 0x6A .done
      (s.lane l).binStatusFields).transmit ∧
    exec (.speedRead tag lane) s = .next (s.answer tag 0x72 .done (s.lane l).speedFields).transmit) ∧
  (∀ c : Constants, c.fields = u16 c.gateCount ++
    c.gates.toList.flatMap (fun g => u24 g.distance ++ u16 g.leadTime ++ u16 g.dwell ++ u16 g.confirm) ++
    u24 c.runoutDistance ++ u16 c.runoutWindow ++ u16 c.headCount ++ c.headOffset.toList.flatMap u16 ++
    u16 c.halfWindow ++ u24 c.readClose ++ u16 c.lengthMin ++ u16 c.lengthMax ++ u16 c.guardMargin ++
    u16 c.speedFloor ++ u8 c.missLimit ++ u8 c.jamLimit ++ u8 c.startLimit ++ u8 c.drainLimit) ∧
  (outcomeFields none = u8 1 ++ u8 0xFF ++ u16 0xFFFF ∧
    ∀ x, outcomeFields (some x) = u8 (x.condition + 1) ++ (u8 x.item ++ optField 2 x.index)) ∧
  (∀ p : Piece, p.fields = u32 p.number ++ u24 p.lead.toNat ++ optField 3 (p.trail.map BitVec.toNat) ++
    optField 2 p.length ++ bit p.overlong ++ u8 (slotNum p.slot) ++ u16 p.label ++ bit p.notReady ++
    p.reports.toList.flatMap (fun
      | none => optField 3 none ++ u8 0 ++ optDigits none
      | some r => u24 r.stamp.toNat ++ u8 (if r.digits.isSome then 1 else 2) ++ optDigits r.digits) ++
    (match p.outcome with
      | some (.resolved str n c) => u8 1 ++ optDigits (some str) ++ u8 n ++ bit c
      | o => u8 ((o.map ReadOutcome.code).getD 0) ++ optDigits none ++ u8 0xFF ++ bit false) ++
    optField 5 (p.key.map Key.account) ++ optField 2 (p.key.bind Key.doctype) ++ u8 p.stage.code ++
    u8 p.lookup.code ++ optField 1 p.cls ++ u8 ((p.source.map LookupSource.code).getD 0) ++
    bit p.flags.hotUndefined ++ bit p.flags.dirUndefined ++ bit p.flags.dirFallback ++ u8 p.route.code ++
    optField 1 (p.gate.map (fun g => g.val + 1)) ++ optField 3 (p.openAt.map BitVec.toNat) ++
    optField 3 (p.releaseAt.map BitVec.toNat) ++ u8 ((p.reason.map RouteReason.code).getD 0) ++
    optField 3 (p.window.map (fun w => w.opens.toNat)) ++
    optField 3 (p.window.map (fun w => w.closes.toNat))) ∧
  (∀ (L : Lane) (g : Gate), ∃ latest : Option Position,
    L.gateFields g = bit L.gateOut[g.val] ++ u16 L.holds[g.val].length ++
      optField 3 (latest.map BitVec.toNat) ++
      u16 (L.track.filter (fun p => p.route = .armed && p.gate = some g)).length ++
      u16 (L.track.filter (fun p => p.route = .captured && p.gate = some g)).length ∧
    (L.holds[g.val] = [] → latest = none) ∧
    (∀ q, L.holds[g.val] ≠ [] → (∀ h ∈ L.holds[g.val], fwd q h.releaseAt ≤ 8388607) →
      ∃ h ∈ L.holds[g.val], latest = some h.releaseAt ∧
        ∀ h' ∈ L.holds[g.val], fwd q h'.releaseAt ≤ fwd q h.releaseAt)) ∧
  (∀ (L : Lane) (oldest : List Piece → Bytes),
    oldest [] = [] → (∀ p ps, oldest (p :: ps) = u32 p.number ++
      optField 3 (p.window.map (fun w => w.opens.toNat)) ++
      optField 3 (p.window.map (fun w => w.closes.toNat))) →
    L.binStatusFields = allGates.flatMap (fun g => u16 L.bins[g.val].confirmed ++
        u16 (L.outstanding g).length ++ u16 L.bins[g.val].capacity ++ u16 L.bins[g.val].nearFull ++
        u8 (L.binState g).code ++ bit L.bins[g.val].out ++ u16 L.bins[g.val].miss) ++
      u8 (allGates.filter (fun g => L.outstanding g ≠ [])).length ++
      (allGates.filter (fun g => L.outstanding g ≠ [])).flatMap (fun g => oldest (L.outstanding g)) ++
      u16 L.runoutConfirmed ++ u16 L.runoutList.length ++ oldest L.runoutList ++ u16 L.lostCount ++
      u8 L.constants.missLimit ++ u8 L.constants.jamLimit ++ u16 L.counters.binStrays.toNat ++
      u16 L.counters.runoutStrays.toNat) ∧
  (∀ L : Lane, ∃ pulses : Bytes, pulses.length = 2 ∧
    (L.speed.pulses ≤ 65535 → pulses = u16 L.speed.pulses) ∧
    L.speedFields = u16 L.speed.window ++
      optField 2 (if L.speed.nextWindow = L.speed.window then none else some L.speed.nextWindow) ++
      pulses ++ u16 L.speed.figure ++ u16 L.speed.lowLimit ++ u16 L.speed.highLimit ++
      u16 L.speed.critLimit ++ u16 L.speed.hysteresis ++ bit L.speed.low ++ bit L.speed.high ++
      bit L.speed.crit ++ u8 L.speed.mode.code ++ bit L.speed.latch ++ bit L.speed.line ++
      u16 L.speed.qualification ++ bit L.lock ++ u16 (max L.speed.figure L.constants.speedFloor))

/-! ### The piece track -/

/-- A leading edge on a lane that takes letters, with room on the track, opens a record at the tail:
the next piece number, the lane position as lead, the ACTIVE slot and its label, the NOT READY mark
in STARTING and DRAINING, every other field initial, and the three events at lead + Lmax, lead + K
and lead + D[G] − M; one reference is taken on the slot, and nothing else changes. A leading edge
that opens no record: on a STOPPED or FAULTED lane it is counted, and on a lane with 64 records that
takes letters the lane enters FAULTED with cause TRACK FULL. With no ACTIVE slot to stamp, which the
plan store's rules rule out, an edge that would open a record stops the part: the model's choice
(assumption log 5). -/
def Obligations.LeadingEdgeOpensRecordOrNone : Prop :=
  (∀ (l : LaneId) (k : SlotId) (s : State), s.Quiet → s.activeSlot = some k →
    (s.lane l).state = .starting ∨ (s.lane l).state = .running ∨ (s.lane l).state = .draining →
    (s.lane l).track.length < 64 →
    exec (.leadingEdge l) s = .next (((s.setLane l { s.lane l with
      entryLine := true
      nextPiece := if (s.lane l).nextPiece = 4294967295 then 1 else (s.lane l).nextPiece + 1
      track := (s.lane l).track ++ [
        { number := (s.lane l).nextPiece
          lead := (s.lane l).pos
          trail := none
          length := none
          overlong := false
          slot := k
          label := (s.slot k).settings.label
          notReady := decide ((s.lane l).state ≠ .running)
          reports := #v[none, none, none, none]
          outcome := none
          key := none
          stage := .entering
          lookup := .none
          cls := none
          source := none
          flags := ⟨false, false, false⟩
          route := .unrouted
          gate := none
          openAt := none
          releaseAt := none
          reason := none
          window := none
          forcedTrailAt := some (ahead (s.lane l).pos (s.lane l).constants.lengthMax)
          readCloseAt := some (ahead (s.lane l).pos (s.lane l).constants.readClose)
          lastChanceAt := some (behind (ahead (s.lane l).pos
            ((s.lane l).constants.distance (s.lane l).constants.gateCount))
            (s.lane l).constants.guardMargin)
          fireAt := none }] }).modSlot k (fun x => { x with refs := x.refs + 1 })).transmit)) ∧
  (∀ (l : LaneId) (s : State), s.Quiet →
    ((s.lane l).state = .stopped ∨ (s.lane l).state = .faulted →
      exec (.leadingEdge l) s = .next ((s.setLane l { s.lane l with
        entryLine := true
        counters := { (s.lane l).counters with
          entriesStopped := (s.lane l).counters.entriesStopped + 1 } }).transmit)) ∧
    ((s.lane l).state = .starting ∨ (s.lane l).state = .running ∨ (s.lane l).state = .draining →
      64 ≤ (s.lane l).track.length →
      exec (.leadingEdge l) s =
        .next (((s.setLane l { s.lane l with entryLine := true }).enterFaulted l .trackFull).transmit))) ∧
  (∀ (l : LaneId) (s : State), s.resetLine = false → s.activeSlot = none →
    (s.lane l).state = .starting ∨ (s.lane l).state = .running ∨ (s.lane l).state = .draining →
    (s.lane l).track.length < 64 → exec (.leadingEdge l) s = .fault .noActiveSlot)

/-- The capture check and the re-routing from a failed gate. An open span from F (in it) to Rl (not
in it) and a passage meet when the start of either lies in the other. A record whose passage at a
gate, from lead + D to trail + D, meets the span of a record ARMED there or of a hold standing there
is captured by the first such gate of 1 to G, or, when re-routed, of the gates above the one that
went out: it becomes CAPTURED there, without F, Rl and fire event, with reason CAPTURED and the
window from lead + D to trail + D + C. With no such gate an UNROUTED record keeps its route at its
trail, and a re-routed one goes to run-out with reason GATE OUT and the run-out window. When a gate
goes out, the records ARMED at it are so re-routed from the oldest, by the number that tells them
apart, and every other record and all else of the lane is left as it is. -/
def Obligations.CaptureAndRerouting : Prop :=
  (∀ (L : Lane) (c : Piece) (t : Position) (meets : Gate → Position → Position → Prop)
      (takes : Gate → Prop) (captured : Gate → Piece),
    c.trail = some t →
    (∀ (g : Gate) (f r a b : Position), a = ahead c.lead L.constants.gates[g.val].distance →
      b = ahead t L.constants.gates[g.val].distance →
      (meets g f r ↔ fwd a f ≤ fwd a b ∨ fwd f a < fwd f r)) →
    (∀ g : Gate, takes g ↔
      (∃ q ∈ L.track, q.route = .armed ∧ q.gate = some g ∧
        ∃ f r, q.openAt = some f ∧ q.releaseAt = some r ∧ meets g f r) ∨
      ∃ h ∈ L.holds[g.val], meets g h.openAt h.releaseAt) →
    (∀ g : Gate, captured g = { c with
      route := .captured
      gate := some g
      openAt := none
      releaseAt := none
      fireAt := none
      reason := some .captured
      window := some ⟨ahead c.lead L.constants.gates[g.val].distance,
        ahead (ahead t L.constants.gates[g.val].distance) L.constants.gates[g.val].confirm⟩ }) →
    (c.route ≠ .unrouted → L.captureAtTrail c = c) ∧
    (c.route = .unrouted →
      (∀ g : Gate, g.val + 1 ≤ L.constants.gateCount → takes g → (∀ g' : Gate, g' < g → ¬ takes g') →
        L.captureAtTrail c = captured g) ∧
      ((∀ g : Gate, g.val + 1 ≤ L.constants.gateCount → ¬ takes g) → L.captureAtTrail c = c)) ∧
    (∀ failed : Gate,
      (∀ g : Gate, failed < g → g.val + 1 ≤ L.constants.gateCount → takes g →
        (∀ g' : Gate, failed < g' → g' < g → ¬ takes g') → L.reroutePiece failed c = captured g) ∧
      ((∀ g : Gate, failed < g → g.val + 1 ≤ L.constants.gateCount → ¬ takes g) →
        L.reroutePiece failed c = { c with
          route := .runoutBound
          gate := none
          openAt := none
          releaseAt := none
          fireAt := none
          reason := some .gateOut
          window := some ⟨ahead c.lead L.constants.runoutDistance,
            ahead (ahead t L.constants.runoutDistance) L.constants.runoutWindow⟩ }))) ∧
  (∀ (L : Lane) (g : Gate),
    L.rerouteAll g = (L.track.filter (fun p => p.route = .armed && p.gate = some g)).foldl
      (fun L' p => L'.modPiece p.number (L'.reroutePiece g)) L ∧
    { L.rerouteAll g with track := L.track } = L ∧
    ((∀ p ∈ L.track, ∀ q ∈ L.track, p.number = q.number → p = q) →
      (L.rerouteAll g).track = L.track.map (fun p =>
        if p.route = .armed ∧ p.gate = some g then L.reroutePiece g p else p)))

/-- A trailing edge: with no ENTERING record, or in FAULTED, it changes nothing; below Lmin the
record is a flutter, removed without a disposition with its reference released and counted; at Lmin
or more the trail and length are set, the stage becomes READING, the forced trail is cancelled and
the capture check of CaptureAndRerouting runs over gates 1 to G. The forced trail of a record still
ENTERING sets the trail lead + Lmax, the length Lmax and the overlong flag, makes it READING and
runs the capture check; a record past ENTERING is left as it is but for the event. (That the oldest
of two ENTERING records is meant, and the place of the BIN STATE notices, are the model's readings,
logs 11 and 18.) -/
def Obligations.TrailIsSet : Prop :=
  (∀ (l : LaneId) (s : State), s.Quiet →
    ((s.lane l).state = .faulted ∨ (∀ p ∈ (s.lane l).track, p.stage ≠ .entering) →
      exec (.trailingEdge l) s = .next ((s.setLane l { s.lane l with entryLine := false }).transmit)) ∧
    (∀ before p after, (s.lane l).track = before ++ p :: after → p.stage = .entering →
      (∀ q ∈ before, q.stage ≠ .entering) → (s.lane l).state ≠ .faulted →
      (fwd p.lead (s.lane l).pos < (s.lane l).constants.lengthMin →
        exec (.trailingEdge l) s = .next ((((s.setLane l { s.lane l with
          entryLine := false
          counters := { (s.lane l).counters with flutters := (s.lane l).counters.flutters + 1 }
          track := (s.lane l).track.filter (fun q => q.number ≠ p.number) }).releaseRef
            p.slot).reportEmpty l).transmit)) ∧
      ((s.lane l).constants.lengthMin ≤ fwd p.lead (s.lane l).pos →
        ∃ q : Piece,
          q = { p with
            trail := some (s.lane l).pos
            length := some (fwd p.lead (s.lane l).pos)
            stage := .reading
            forcedTrailAt := none } ∧
          exec (.trailingEdge l) s = .next ((((s.setLane l { s.lane l with
            entryLine := false }).modLane l (fun L =>
              let L' := L.modPiece p.number (fun _ => q)
              L'.modPiece p.number L'.captureAtTrail)).deriveBins l
                { s.lane l with entryLine := false }).transmit)))) ∧
  (∀ (l : LaneId) (n : Nat) (p : Piece) (s : State), s.Quiet → (s.lane l).piece n = some p →
    ((s.lane l).state ≠ .faulted → due p.forcedTrailAt (s.lane l).pos = true →
      (p.stage = .entering → ∃ q : Piece,
        q = { p with
          trail := some (ahead p.lead (s.lane l).constants.lengthMax)
          length := some (s.lane l).constants.lengthMax
          overlong := true
          stage := .reading
          forcedTrailAt := none } ∧
        exec (.forcedTrail l n) s = .next (((s.modLane l (fun L =>
          let L' := L.modPiece p.number (fun _ => q)
          L'.modPiece p.number L'.captureAtTrail)).deriveBins l (s.lane l)).transmit)) ∧
      (p.stage ≠ .entering →
        exec (.forcedTrail l n) s =
          .next ((s.modPiece l n (fun q => { q with forcedTrailAt := none })).transmit))))

/-- A position event is taken only in a lane that is not FAULTED, of a record or hold that is there,
and once its position has been reached; the command changes nothing otherwise. (That a command
before its position changes nothing is the model's choice, assumption log 4.) -/
def Obligations.PositionEventsOnlyWhenDue : Prop :=
  (∀ (q : Option Position) (p : Position),
    due q p = true ↔ ∃ q', q = some q' ∧ fwd q' p ≤ 8388607) ∧
  (∀ (L : Lane) (n : Nat) (f : Piece → Piece),
    (∀ p, L.piece n = some p ↔ ∃ before after, L.track = before ++ p :: after ∧ p.number = n ∧
      ∀ q ∈ before, q.number ≠ n) ∧
    (L.piece n = none ↔ ∀ q ∈ L.track, q.number ≠ n) ∧
    L.modPiece n f = { L with track := L.track.map (fun p => if p.number = n then f p else p) }) ∧
  ∀ (l : LaneId) (n : Nat) (s : State), s.Quiet →
    ((s.lane l).state = .faulted ∨ (s.lane l).piece n = none ∨
        (∃ p, (s.lane l).piece n = some p ∧ due p.forcedTrailAt (s.lane l).pos = false) →
      exec (.forcedTrail l n) s = .next s.transmit) ∧
    ((s.lane l).state = .faulted ∨ (s.lane l).piece n = none ∨
        (∃ p, (s.lane l).piece n = some p ∧ due p.readCloseAt (s.lane l).pos = false) →
      exec (.readClose l n) s = .next s.transmit) ∧
    ((s.lane l).state = .faulted ∨ (s.lane l).piece n = none ∨
        (∃ p, (s.lane l).piece n = some p ∧ due p.lastChanceAt (s.lane l).pos = false) →
      exec (.lastChance l n) s = .next s.transmit) ∧
    ((s.lane l).state = .faulted ∨ (s.lane l).piece n = none ∨
        (∃ p, (s.lane l).piece n = some p ∧
          (p.route ≠ .armed ∨ due p.fireAt (s.lane l).pos = false)) →
      exec (.fireEvent l n) s = .next s) ∧
    (∀ g : Gate, (s.lane l).state = .faulted ∨
        (∀ h ∈ (s.lane l).holds[g.val], h.piece = n → reached h.releaseAt (s.lane l).pos = false) →
      exec (.releaseEvent l g n) s = .next s) ∧
    ((s.lane l).state = .faulted ∨ (s.lane l).piece n = none ∨
        (∃ p, (s.lane l).piece n = some p ∧
          due (p.window.map Window.closes) (s.lane l).pos = false) →
      exec (.windowClose l n) s = .next s.transmit ∧
      exec (.runoutWindowClose l n) s = .next s.transmit)

/-- Read close. Of a record still ENTERING: the forced trail is applied first and class 7, source
SERVICE, is given; the record is DECIDED. Of a record past ENTERING: the outcome and the key are
written by ReadOutcomeKeyAndClass; a record with a service class takes it and is DECIDED; a record
with a key joins the lookup queue when fewer than 8 wait, becoming DECIDING and QUEUED, and a grant
may follow; with 8 waiting it takes class 5 and the overload counter rises. (The place of the BIN
STATE notices is the model's reading, assumption log 18.) -/
def Obligations.ReadCloseResolves : Prop :=
  (∀ (l : LaneId) (n : Nat) (p : Piece) (s v : State), s.Quiet → (s.lane l).piece n = some p →
    (s.lane l).state ≠ .faulted → due p.readCloseAt (s.lane l).pos = true → p.stage = .entering →
    v = s.modLane l (fun L => ((L.forceTrail p).modPiece n
      (fun x => { x with readCloseAt := none })).modPiece n
        (fun x => x.resolve (s.slot p.slot).formats)) →
    exec (.readClose l n) s = .next (((v.modPiece l n (fun x => { x with
      cls := some 7, source := some .service })).decidePiece l n (s.lane l)).transmit)) ∧
  (∀ (l : LaneId) (n : Nat) (p q : Piece) (s v : State), s.Quiet → (s.lane l).piece n = some p →
    (s.lane l).state ≠ .faulted → due p.readCloseAt (s.lane l).pos = true → p.stage ≠ .entering →
    q = { p with
      readCloseAt := none
      outcome := some (readOutcome (s.slot p.slot).formats p.reports)
      key := outcomeKey (s.slot p.slot).formats
        (readOutcome (s.slot p.slot).formats p.reports) } →
    v = s.modLane l (fun L => (L.modPiece n (fun x => { x with readCloseAt := none })).modPiece n
      (fun x => x.resolve (s.slot p.slot).formats)) →
    (v.lane l).piece n = some q ∧
    (∀ c, serviceClass p.overlong p.notReady (readOutcome (s.slot p.slot).formats p.reports) = some c →
      exec (.readClose l n) s = .next (((v.modPiece l n (fun x => { x with
        cls := some c, source := some .service })).decidePiece l n (s.lane l)).transmit)) ∧
    (∀ key, serviceClass p.overlong p.notReady
        (readOutcome (s.slot p.slot).formats p.reports) = none → q.key = some key →
      (s.lookup.queue.length < 8 →
        exec (.readClose l n) s = .next (((({ v with lookup := { s.lookup with
          queue := s.lookup.queue ++
            [(⟨.piece l n, key.account, key.doctype, p.slot, s.lookup.nextArrival⟩ : LookupRequest)]
          nextArrival := s.lookup.nextArrival + 1 } }.modPiece l n (fun x => { x with
            lookup := .queued, stage := .deciding })).grant).deriveBins l (s.lane l)).transmit)) ∧
      (8 ≤ s.lookup.queue.length →
        exec (.readClose l n) s = .next (((((v.countLane l (fun c => { c with
          overloads := c.overloads + 1 })).modPiece l n (fun x => { x with
            cls := some 5, source := some .service })).decidePiece l n (s.lane l))).transmit))))

/-- Last chance, taken at its position: a DECIDED record is left as it is; a DECIDING record whose
request is queued has it withdrawn, becoming WITHDRAWN and DECIDED without a class, and one in
progress stays DECIDING; an UNROUTED record then goes to run-out with reason LATE FINAL, and any
other route is kept. (That it changes nothing of a record still ENTERING or READING is the model's
choice, assumption log 13.) -/
def Obligations.LastChanceSendsToRunout : Prop :=
  ∀ (l : LaneId) (n : Nat) (p : Piece) (s v : State), s.Quiet → (s.lane l).piece n = some p →
    (s.lane l).state ≠ .faulted → due p.lastChanceAt (s.lane l).pos = true →
    v = s.modPiece l n (fun q => { q with lastChanceAt := none }) →
    (p.stage = .decided → exec (.lastChance l n) s = .next v.transmit) ∧
    (p.stage = .entering ∨ p.stage = .reading → exec (.lastChance l n) s = .next s.transmit) ∧
    (p.stage = .deciding → p.lookup ≠ .queued →
      exec (.lastChance l n) s = .next ((v.modPiece l n (fun q =>
        if q.route = .unrouted then { q with
          route := .runoutBound
          gate := none
          openAt := none
          releaseAt := none
          fireAt := none
          reason := some .lateFinal
          window := some ⟨ahead q.lead (s.lane l).constants.runoutDistance,
            ahead (ahead (q.trail.getD (ahead q.lead (s.lane l).constants.lengthMax))
              (s.lane l).constants.runoutDistance) (s.lane l).constants.runoutWindow⟩ }
        else q)).transmit)) ∧
    (p.stage = .deciding → p.lookup = .queued →
      exec (.lastChance l n) s = .next
        (((({ v with lookup := s.lookup.withdraw l p.number }.modPiece l p.number (fun q =>
          { q with lookup := .withdrawn, stage := .decided })).releaseRef p.slot).modLane l
            (fun L => L.modPiece n (fun q => if q.route = RouteState.unrouted then { q with
              route := .runoutBound
              gate := none
              openAt := none
              releaseAt := none
              fireAt := none
              reason := some .lateFinal
              window := some ⟨ahead q.lead L.constants.runoutDistance,
                ahead (ahead (q.trail.getD (ahead q.lead L.constants.lengthMax))
                  L.constants.runoutDistance) L.constants.runoutWindow⟩ }
            else q))).transmit))

/-- Finalization: the record leaves the track, the others keeping their order; its reference is
released unless it is DECIDED or its lookup is in progress; a queued request is withdrawn; and its
disposition, whose items are the record's, joins the disposition queue or, with 64 waiting, is
dropped and counted. A reference released lowers the slot's count by one; at 0 on a RETIRING slot
the slot becomes READY and PLAN RETIRED is raised; in every other state nothing else changes. What
follows finalizations: a waiting JAM report faults the lane once no other window close falls at its
position, and a track left empty ends a drain: the lane enters STOPPED, drain timer stopped and
every hold dropped. In every other case nothing changes. (The waiting of the JAM report in a field,
the WITHDRAWN of a disposition, and a count that stays at 0, are the model's readings, assumption
logs 15, 19 and 36.) -/
def Obligations.FinalizationAndWhatFollows : Prop :=
  (∀ (l : LaneId) (p : Piece) (f : FinalState) (s : State), ∃ u : State,
    s.finalize l p f = u.offer (Disposition.of l
      (if p.lookup = .queued then { p with lookup := .withdrawn } else p) f) ∧
    u.lane l = { s.lane l with track := (s.lane l).track.filter (fun q => q.number ≠ p.number) } ∧
    (∀ l', l' ≠ l → u.lane l' = s.lane l') ∧
    u.lookup = (if p.lookup = .queued then s.lookup.withdraw l p.number else s.lookup) ∧
    (p.stage = .decided ∨ p.lookup = .inProgress →
      (∀ k, u.slot k = s.slot k) ∧ u.link = s.link) ∧
    (p.stage ≠ .decided → p.lookup ≠ .inProgress →
      (∀ k, u.slot k = (s.releaseRef p.slot).slot k) ∧ u.link = (s.releaseRef p.slot).link) ∧
    u.hot = s.hot ∧ u.dir = s.dir ∧ u.checker = s.checker) ∧
  (∀ (l : LaneId) (p : Piece) (f : FinalState), Disposition.of l p f =
    { lane := l
      number := p.number
      lead := p.lead
      length := p.length
      slot := p.slot
      label := p.label
      outcome := p.outcome
      key := p.key
      cls := p.cls
      source := p.source
      bin := (match p.route with
        | .unrouted => none
        | .runoutBound => some 0
        | .armed => p.gate.map (fun g => g.val + 1)
        | .fired => p.gate.map (fun g => g.val + 1)
        | .captured => p.gate.map (fun g => g.val + 1))
      final := f
      reason := p.reason
      overlong := p.overlong
      notReady := p.notReady
      contested := (match p.outcome with
        | some (.resolved _ _ c) => c
        | _ => false)
      flags := p.flags
      fired := decide (p.route = .fired)
      withdrawn := decide (p.lookup = .withdrawn) }) ∧
  (∀ (u : LookupUnit) (l : LaneId) (n : Nat), u.withdraw l n = { u with
    queue := u.queue.filter (fun r => r.requester ≠ .piece l n)
    passCount := if u.queue.head?.any (fun r => r.requester = .piece l n) then 0 else u.passCount }) ∧
  (∀ (k : SlotId) (s : State),
    ((s.slot k).state = .retiring → (s.slot k).refs ≤ 1 →
      s.releaseRef k =
        (s.setSlot k { s.slot k with refs := 0, state := .ready }).raise (.planRetired k)) ∧
    ((s.slot k).state ≠ .retiring ∨ 2 ≤ (s.slot k).refs →
      s.releaseRef k = s.setSlot k { s.slot k with refs := (s.slot k).refs - 1 })) ∧
  (∀ (l : LaneId) (s : State),
    ((s.lane l).jamPending = none → s.settleJam l = s) ∧
    (∀ q, (s.lane l).jamPending = some q →
      ((∃ p ∈ (s.lane l).track, ∃ w, p.window = some w ∧ w.closes = q) → s.settleJam l = s) ∧
      ((∀ p ∈ (s.lane l).track, ∀ w, p.window = some w → w.closes ≠ q) →
        ((s.lane l).state = .starting ∨ (s.lane l).state = .running ∨ (s.lane l).state = .draining →
          s.settleJam l =
            (s.setLane l { s.lane l with jamPending := none }).enterFaulted l .jam) ∧
        ((s.lane l).state = .stopped ∨ (s.lane l).state = .faulted →
          s.settleJam l = s.setLane l { s.lane l with jamPending := none }))) ∧
    ((s.lane l).track ≠ [] ∨ (s.lane l).state ≠ .draining → s.reportEmpty l = s) ∧
    ((s.lane l).track = [] → (s.lane l).state = .draining →
      s.reportEmpty l = (s.setLane l { s.lane l with
        state := .stopped
        run := false
        drainTimer := false
        holds := Vector.replicate 12 []
        gateOut := Vector.replicate 12 false }).raise (.laneState l .stopped .drained)))

/-! ### Reading the code -/

/-- MOD10-31 and MOD11-27: the weighted sums over the data digits counted from the right, the
computed checks, and that every string fails under MOD11-27 when its data digits leave remainder 1.
-/
def Obligations.CheckDigitSchemes : Prop :=
  ∀ data : List Digit,
    (∃ S, S = ((List.range data.length).map (fun i =>
        (data.reverse.getD i 0).val * (if i % 2 = 0 then 3 else 1))).sum ∧
      computedCheck .mod10 data = some ((10 - S % 10) % 10)) ∧
    (∃ S, S = ((List.range data.length).map (fun i =>
        (data.reverse.getD i 0).val * (2 + i % 6))).sum ∧
      computedCheck .mod11 data = some ((11 - S % 11) % 11) ∧
      (S % 11 = 1 → ∀ d : Digit, checkPasses .mod11 (data ++ [d]) = false))

/-- The read outcome of a record and what follows from it. A string takes the first format whose
prefix begins it and whose code length it has, and is a valid read when its last digit is the check
of the digits before it, or always under scheme NONE. With a valid read the vote over the valid
reads decides: RESOLVED on a string whose group is larger than every other, contested exactly when
another group exists, with the number of the format it takes; MULTI when the largest size is shared.
Without one it is CHECKFAIL if a string failed its check, else NOFORMAT if there is a string, else
NOREAD. The key is read in decimal from the account and doctype fields of the winning string, for
RESOLVED alone. The service class is 7 when overlong, else 6 when NOT READY, else 0, 1, 2 and 3 for
NOREAD, MULTI, CHECKFAIL and NOFORMAT, and none for RESOLVED. -/
def Obligations.ReadOutcomeKeyAndClass : Prop :=
  (∀ (fs : List FormatEntry) (str : List Digit) (matching : FormatEntry → Prop),
    (∀ f, matching f ↔ f.pfx <+: str ∧ str.length = f.codeLength) →
    (∀ before f after, fs = before ++ f :: after → matching f → (∀ e ∈ before, ¬ matching e) →
      formatFor fs str = some f) ∧
    ((∀ f ∈ fs, ¬ matching f) → formatFor fs str = none) ∧
    (isValidRead fs str = true ↔ ∃ f, formatFor fs str = some f ∧ checkPasses f.scheme str = true)) ∧
  (∀ (data : List Digit) (d : Digit) (scheme : CheckScheme),
    checkPasses scheme (data ++ [d]) = true ↔
      scheme = .none ∨ computedCheck scheme data = some d.val) ∧
  (∀ (fs : List FormatEntry) (reports : Vector (Option Report) 4) (strings : List (List Digit)),
    strings = reports.toList.filterMap (fun r => r.bind Report.digits) →
    ((∃ str ∈ strings, isValidRead fs str = true) →
      readOutcome fs reports = vote fs (strings.filter (fun str => isValidRead fs str))) ∧
    ((∀ str ∈ strings, isValidRead fs str = false) →
      ((∃ str ∈ strings, formatFor fs str ≠ none) → readOutcome fs reports = .checkfail) ∧
      ((∀ str ∈ strings, formatFor fs str = none) →
        (strings ≠ [] → readOutcome fs reports = .noformat) ∧
        (strings = [] → readOutcome fs reports = .noread)))) ∧
  (∀ (fs : List FormatEntry) (reads : List (List Digit)),
    (∀ str c f, vote fs reads = .resolved str f c →
      str ∈ reads ∧
      (∀ other ∈ reads, other ≠ str →
        (reads.filter (· = other)).length < (reads.filter (· = str)).length) ∧
      (c = true ↔ ∃ other ∈ reads, other ≠ str) ∧
      f = ((formatFor fs str).map FormatEntry.number).getD 0) ∧
    (∀ str ∈ reads,
      (∀ other ∈ reads, other ≠ str →
        (reads.filter (· = other)).length < (reads.filter (· = str)).length) →
      ∃ f c, vote fs reads = .resolved str f c) ∧
    (vote fs reads = .multi ↔ ¬ ∃ str ∈ reads, ∀ other ∈ reads, other ≠ str →
      (reads.filter (· = other)).length < (reads.filter (· = str)).length)) ∧
  (∀ (fs : List FormatEntry) (str : List Digit) (n : Nat) (c : Bool) (f : FormatEntry)
      (number : List Digit → Nat),
    (∀ ds, number ds = Nat.ofDigits 10 (ds.reverse.map Fin.val)) → formatFor fs str = some f →
    outcomeKey fs (.resolved str n c) = some
      { account := number ((str.drop (f.accountStart - 1)).take f.accountLength)
        doctype := if f.doctypeLength = 0 then none
          else some (number ((str.drop (f.doctypeStart - 1)).take f.doctypeLength)) }) ∧
  (∀ (fs : List FormatEntry) (o : ReadOutcome),
    o = .noread ∨ o = .multi ∨ o = .checkfail ∨ o = .noformat → outcomeKey fs o = none) ∧
  (∀ (o : ReadOutcome) (b : Bool), serviceClass true b o = some 7 ∧ serviceClass false true o = some 6) ∧
  serviceClass false false .noread = some 0 ∧ serviceClass false false .multi = some 1 ∧
  serviceClass false false .checkfail = some 2 ∧ serviceClass false false .noformat = some 3 ∧
  (∀ str n c, serviceClass false false (.resolved str n c) = none)

/-- Two stamps differ by the smaller of the two forward distances between them. The candidate of a
report lies within the half-window, no record lies nearer, and of two records as near it is the one
nearer index 0; there is none when no record lies within the half-window. -/
def Obligations.CandidateIsNearest : Prop :=
  (∀ stamp expected : Position,
    stampDifference stamp expected = min (fwd expected stamp) (fwd stamp expected)) ∧
  ∀ (L : Lane) (offset : Nat) (stamp : Position),
    (∀ p, L.candidate offset stamp = some p → ∃ before after,
      L.track = before ++ p :: after ∧
      stampDifference stamp (ahead p.lead offset) ≤ L.constants.halfWindow ∧
      (∀ q ∈ before, stampDifference stamp (ahead p.lead offset) <
        stampDifference stamp (ahead q.lead offset)) ∧
      (∀ q ∈ after, stampDifference stamp (ahead p.lead offset) ≤
        stampDifference stamp (ahead q.lead offset))) ∧
    (L.candidate offset stamp = none ↔ ∀ q ∈ L.track,
      L.constants.halfWindow < stampDifference stamp (ahead q.lead offset))

/-- A scan report that a lane takes, from head h with a well-formed GOOD string: placed in slot h of
its candidate while that is ENTERING or READING, with the replaced counter raised over a filled
slot; late past READING; an orphan without a candidate. Every other report of the lane is discarded
or taken as NOREAD, and counted. A GOOD string is well formed when it is 1 to 32 characters 30h to
39h. Nothing else of the lane changes. -/
def Obligations.ScanReportPlaced : Prop :=
  (∀ (chars : Bytes) (ds : List Digit), goodDigits chars = some ds ↔
    1 ≤ chars.length ∧ chars.length ≤ 32 ∧
      chars = ds.map (fun d => BitVec.ofNat 8 (0x30 + d.val))) ∧
  ∀ (L : Lane) (head : Nat) (stamp : Position) (result : Nat) (chars : Bytes),
    (L.state = .stopped ∨ L.state = .faulted ∨ L.constants.headCount ≤ head ∨ 4 ≤ head →
      L.scanReport head stamp result chars =
        { L with counters := { L.counters with discarded := L.counters.discarded + 1 } }) ∧
    (∀ h : HeadId, h.val = head → L.state ≠ .stopped → L.state ≠ .faulted →
      head < L.constants.headCount →
      (∀ ds, result = 1 → goodDigits chars = some ds →
        L.scanReport head stamp result chars = L.placeReport h ⟨stamp, some ds⟩) ∧
      (result = 2 → L.scanReport head stamp result chars = L.placeReport h ⟨stamp, none⟩) ∧
      (((result ≠ 1 ∧ result ≠ 2) ∨ (result = 1 ∧ goodDigits chars = none)) →
        L.scanReport head stamp result chars =
          { L with counters := { L.counters with garbled := L.counters.garbled + 1 } }.placeReport h
            ⟨stamp, none⟩)) ∧
    (∀ (h : HeadId) (r : Report),
      (∀ p, L.candidate L.constants.headOffset[h.val] r.stamp = some p →
        (p.stage = .entering ∨ p.stage = .reading →
          L.placeReport h r = { L with
            track := L.track.map (fun q =>
              if q.number = p.number then { q with reports := q.reports.set h.val (some r) } else q)
            counters := { L.counters with
              replaced := L.counters.replaced + (if (p.reports[h.val]).isSome then 1 else 0) } }) ∧
        (p.stage = .deciding ∨ p.stage = .decided →
          L.placeReport h r =
            { L with counters := { L.counters with late := L.counters.late + 1 } })) ∧
      (L.candidate L.constants.headOffset[h.val] r.stamp = none →
        L.placeReport h r =
          { L with counters := { L.counters with orphan := L.counters.orphan + 1 } }))

/-! ### The plan store -/

/-- PLAN OPEN by slot state: EMPTY takes the contents of an EMPTY slot into LOADING; READY without
references keeps its contents and sets each load pointer to its count; READY with references, ACTIVE
and RETIRING are refused IN USE; LOADING is DONE without effect; CHECKING is refused BUSY. -/
def Obligations.PlanOpenByState : Prop :=
  ∀ (tag slot : Nat) (k : SlotId) (s : State), s.TakesAtOnce → slotOf slot = some k →
    ((s.slot k).state = .empty → exec (.planOpen tag slot) s = .next
      (((s.setSlot k
        { state := .loading
          refs := (s.slot k).refs
          formats := []
          formatsPtr := 0
          ranges := []
          rangesPtr := 0
          classes := Vector.replicate 64 ⟨false, ⟨0, none⟩, ⟨0, none⟩⟩
          doctypes := []
          doctypesPtr := 0
          settings := ⟨8, .builtIn, false, .fallback, 0⟩
          lastCheck := .none }).answer tag 0x30 .done []).transmit)) ∧
    ((s.slot k).state = .ready →
      ((s.slot k).refs = 0 → exec (.planOpen tag slot) s = .next
        (((s.setSlot k { s.slot k with
          state := .loading
          formatsPtr := (s.slot k).formats.length
          rangesPtr := (s.slot k).ranges.length
          doctypesPtr := (s.slot k).doctypes.length
          lastCheck := .none }).answer tag 0x30 .done []).transmit)) ∧
      (0 < (s.slot k).refs →
        exec (.planOpen tag slot) s = .next (s.answer tag 0x30 .inUse []).transmit)) ∧
    ((s.slot k).state = .loading →
      exec (.planOpen tag slot) s = .next (s.answer tag 0x30 .done []).transmit) ∧
    ((s.slot k).state = .checking →
      exec (.planOpen tag slot) s = .next (s.answer tag 0x30 .busy []).transmit) ∧
    ((s.slot k).state = .active ∨ (s.slot k).state = .retiring →
      exec (.planOpen tag slot) s = .next (s.answer tag 0x30 .inUse []).transmit)

/-- The five loads. A slot that is not LOADING: EMPTY is refused NOT OPEN, CHECKING BUSY, and READY,
ACTIVE and RETIRING PROTECTED, and nothing is written. LOAD FORMATS, LOAD RANGES and LOAD DOCTYPES
into a LOADING slot. With the start given, or the load pointer where none is: a start beyond the
count is refused BAD INDEX with the count, a last position beyond the capacity CAPACITY with
capacity and count, and an entry out of range BAD VALUE with the place of the first; else n entries
are written at start to start + n − 1, the pointer becomes start + n and the count the larger of
itself and start + n; no entries at a start given truncate the table there, and no start and no
entries change nothing. LOAD CLASSES and LOAD SETTINGS: entries and items in range are written in
order, and the first one out of range refuses the whole request BAD VALUE by its place. The ranges
of entries and items are those of their rules. The slot's other tables and the rest of the part are
untouched. (The model's readings: count and pointer in every success, log 22; the doctype start, log
23; the defined flag, log 24; the two-byte place, log 39.) -/
def Obligations.LoadsWriteTheirTables : Prop :=
  (∀ (tag slot : Nat) (k : SlotId) (s : State) (r : Status), s.TakesAtOnce → slotOf slot = some k →
    ((s.slot k).state = .empty ∧ r = .notOpen ∨ (s.slot k).state = .checking ∧ r = .busy ∨
      ((s.slot k).state = .ready ∨ (s.slot k).state = .active ∨ (s.slot k).state = .retiring) ∧
        r = .protected_) →
    (∀ st xs, exec (.loadFormats tag slot st xs) s = .next (s.answer tag 0x31 r []).transmit) ∧
    (∀ st xs, exec (.loadRanges tag slot st xs) s = .next (s.answer tag 0x32 r []).transmit) ∧
    (∀ xs, exec (.loadClasses tag slot xs) s = .next (s.answer tag 0x33 r []).transmit) ∧
    (∀ st xs, exec (.loadDoctypes tag slot st xs) s = .next (s.answer tag 0x34 r []).transmit) ∧
    (∀ xs, exec (.loadSettings tag slot xs) s = .next (s.answer tag 0x35 r []).transmit)) ∧
  (∀ (tag slot : Nat) (k : SlotId) (s : State) (start : Option Nat) (st : Nat), s.TakesAtOnce →
    slotOf slot = some k → (s.slot k).state = .loading →
    (∀ xs : List FormatItem, st = start.getD (s.slot k).formatsPtr →
      ((s.slot k).formats.length < st → exec (.loadFormats tag slot start xs) s =
        .next (s.answer tag 0x31 .badIndex (u16 (s.slot k).formats.length)).transmit) ∧
      (st ≤ (s.slot k).formats.length → 8 < st + xs.length → exec (.loadFormats tag slot start xs) s =
        .next (s.answer tag 0x31 .capacity (u16 8 ++ u16 (s.slot k).formats.length)).transmit) ∧
      (st ≤ (s.slot k).formats.length → st + xs.length ≤ 8 →
        (∀ before x after, xs = before ++ x :: after → (∀ y ∈ before, formatEntry y ≠ none) →
          formatEntry x = none → exec (.loadFormats tag slot start xs) s =
            .next (s.answer tag 0x31 .badValue (u16 before.length)).transmit) ∧
        (start = none → xs = [] → exec (.loadFormats tag slot start xs) s = .next (s.answer tag 0x31 .done
          (u16 (s.slot k).formats.length ++ u16 (s.slot k).formatsPtr)).transmit))) ∧
    (∀ xs : List RangeItem, st = start.getD (s.slot k).rangesPtr →
      ((s.slot k).ranges.length < st → exec (.loadRanges tag slot start xs) s =
        .next (s.answer tag 0x32 .badIndex (u16 (s.slot k).ranges.length)).transmit) ∧
      (st ≤ (s.slot k).ranges.length → 1024 < st + xs.length → exec (.loadRanges tag slot start xs) s =
        .next (s.answer tag 0x32 .capacity (u16 1024 ++ u16 (s.slot k).ranges.length)).transmit) ∧
      (st ≤ (s.slot k).ranges.length → st + xs.length ≤ 1024 →
        (∀ before x after, xs = before ++ x :: after → (∀ y ∈ before, rangeEntry y ≠ none) →
          rangeEntry x = none → exec (.loadRanges tag slot start xs) s =
            .next (s.answer tag 0x32 .badValue (u16 before.length)).transmit) ∧
        (start = none → xs = [] → exec (.loadRanges tag slot start xs) s = .next (s.answer tag 0x32 .done
          (u16 (s.slot k).ranges.length ++ u16 (s.slot k).rangesPtr)).transmit))) ∧
    (∀ xs : List DoctypeItem, st = start.getD (s.slot k).doctypesPtr →
      ((s.slot k).doctypes.length < st → exec (.loadDoctypes tag slot start xs) s =
        .next (s.answer tag 0x34 .badIndex (u16 (s.slot k).doctypes.length)).transmit) ∧
      (st ≤ (s.slot k).doctypes.length → 64 < st + xs.length → exec (.loadDoctypes tag slot start xs) s =
        .next (s.answer tag 0x34 .capacity (u16 64 ++ u16 (s.slot k).doctypes.length)).transmit) ∧
      (st ≤ (s.slot k).doctypes.length → st + xs.length ≤ 64 →
        (∀ before x after, xs = before ++ x :: after → (∀ y ∈ before, doctypeEntry y ≠ none) →
          doctypeEntry x = none → exec (.loadDoctypes tag slot start xs) s =
            .next (s.answer tag 0x34 .badValue (u16 before.length)).transmit) ∧
        (start = none → xs = [] → exec (.loadDoctypes tag slot start xs) s = .next (s.answer tag 0x34 .done
          (u16 (s.slot k).doctypes.length ++ u16 (s.slot k).doctypesPtr)).transmit)))) ∧
  (∀ x e, rangeEntry x = some e ↔ x.low ≤ 999999999999 ∧ x.high ≤ 999999999999 ∧ 8 ≤ x.cls ∧ x.cls ≤ 63 ∧
    e = ⟨x.low, x.high, x.cls⟩) ∧
  (∀ x e, doctypeEntry x = some e ↔ x.doctype ≤ 999 ∧ 8 ≤ x.cls ∧ x.cls ≤ 63 ∧
    (x.strength = 1 ∧ e = ⟨x.doctype, x.cls, .strong⟩ ∨ x.strength = 2 ∧ e = ⟨x.doctype, x.cls, .weak⟩)) ∧
  (∀ x e, formatEntry x = some e ↔ x.number ≤ 7 ∧ 1 ≤ x.pfxCount ∧ x.pfxCount ≤ 4 ∧
    ([x.pfx1, x.pfx2, x.pfx3, x.pfx4].take x.pfxCount) =
      e.pfx.map (fun d => BitVec.ofNat 8 (0x30 + d.val)) ∧
    6 ≤ x.codeLength ∧ x.codeLength ≤ 32 ∧ 1 ≤ x.accountStart ∧ x.accountStart ≤ 32 ∧
    1 ≤ x.accountLength ∧ x.accountLength ≤ 12 ∧ x.doctypeLength ≤ 3 ∧
    (x.doctypeLength = 0 ∨ 1 ≤ x.doctypeStart ∧ x.doctypeStart ≤ 32) ∧
    (x.scheme = 1 ∧ e.scheme = .none ∨ x.scheme = 2 ∧ e.scheme = .mod10 ∨
      x.scheme = 3 ∧ e.scheme = .mod11) ∧
    e = ⟨x.number, e.pfx, x.codeLength, x.accountStart, x.accountLength, x.doctypeStart, x.doctypeLength,
      e.scheme⟩) ∧
  (∀ x (c : Fin 64) e, classEntryOf x = some (c, e) ↔ x.cls = c.val ∧
    (x.defined = 0 ∧ e = ⟨false, ⟨0, none⟩, ⟨0, none⟩⟩ ∨
      x.defined = 1 ∧ x.primary0 ≤ 12 ∧ x.primary1 ≤ 12 ∧
        ∃ o0 o1, e = ⟨true, ⟨x.primary0, o0⟩, ⟨x.primary1, o1⟩⟩ ∧
          (x.overflow0 = 0xFF ∧ o0 = none ∨ 1 ≤ x.overflow0 ∧ x.overflow0 ≤ 12 ∧ o0 = some x.overflow0) ∧
          (x.overflow1 = 0xFF ∧ o1 = none ∨ 1 ≤ x.overflow1 ∧ x.overflow1 ≤ 12 ∧ o1 = some x.overflow1))) ∧
  (∀ st x st', (x : SettingItem).value ≤ 65535 → (applySetting st x = some st' ↔
    x.code = 1 ∧ 8 ≤ x.value ∧ x.value ≤ 63 ∧ st' = { st with defaultClass := x.value } ∨
    x.code = 2 ∧ (x.value = 1 ∧ st' = { st with serviceRouting := .builtIn } ∨
      x.value = 2 ∧ st' = { st with serviceRouting := .plan }) ∨
    x.code = 3 ∧ (x.value = 1 ∧ st' = { st with directoryUse := false } ∨
      x.value = 2 ∧ st' = { st with directoryUse := true }) ∨
    x.code = 4 ∧ (x.value = 1 ∧ st' = { st with policy := .fallback } ∨
      x.value = 2 ∧ st' = { st with policy := .fault }) ∨
    x.code = 5 ∧ st' = { st with label := x.value })) ∧
  (∀ (tag slot : Nat) (k : SlotId) (s : State), s.TakesAtOnce → slotOf slot = some k →
    (s.slot k).state = .loading →
    (∀ (start : Option Nat) (xs : List FormatItem) (es : List FormatEntry) (st : Nat)
        (t : List FormatEntry),
      st = start.getD (s.slot k).formatsPtr → st ≤ (s.slot k).formats.length → st + xs.length ≤ 8 →
      xs.map formatEntry = es.map some → (xs ≠ [] ∨ start ≠ none) →
      t = (if xs = [] then (s.slot k).formats.take st
        else (s.slot k).formats.take st ++ es ++ (s.slot k).formats.drop (st + xs.length)) →
      exec (.loadFormats tag slot start xs) s = .next (((s.setSlot k { s.slot k with
        formats := t, formatsPtr := st + xs.length }).answer tag 0x31 .done
          (u16 t.length ++ u16 (st + xs.length))).transmit)) ∧
    (∀ (start : Option Nat) (xs : List RangeItem) (es : List RangeEntry) (st : Nat)
        (t : List RangeEntry),
      st = start.getD (s.slot k).rangesPtr → st ≤ (s.slot k).ranges.length →
      st + xs.length ≤ 1024 →
      xs.map rangeEntry = es.map some → (xs ≠ [] ∨ start ≠ none) →
      t = (if xs = [] then (s.slot k).ranges.take st
        else (s.slot k).ranges.take st ++ es ++ (s.slot k).ranges.drop (st + xs.length)) →
      exec (.loadRanges tag slot start xs) s = .next (((s.setSlot k { s.slot k with
        ranges := t, rangesPtr := st + xs.length }).answer tag 0x32 .done
          (u16 t.length ++ u16 (st + xs.length))).transmit)) ∧
    (∀ (start : Option Nat) (xs : List DoctypeItem) (es : List DoctypeEntry) (st : Nat)
        (t : List DoctypeEntry),
      st = start.getD (s.slot k).doctypesPtr → st ≤ (s.slot k).doctypes.length →
      st + xs.length ≤ 64 →
      xs.map doctypeEntry = es.map some → (xs ≠ [] ∨ start ≠ none) →
      t = (if xs = [] then (s.slot k).doctypes.take st
        else (s.slot k).doctypes.take st ++ es ++ (s.slot k).doctypes.drop (st + xs.length)) →
      exec (.loadDoctypes tag slot start xs) s = .next (((s.setSlot k { s.slot k with
        doctypes := t, doctypesPtr := st + xs.length }).answer tag 0x34 .done
          (u16 t.length ++ u16 (st + xs.length))).transmit))) ∧
  (∀ (tag slot : Nat) (k : SlotId) (s : State), s.TakesAtOnce → slotOf slot = some k →
    (s.slot k).state = .loading →
    (∀ (xs : List ClassItem) (es : List (Fin 64 × ClassEntry)) (v : PlanSlot),
      xs.map classEntryOf = es.map some →
      v = { s.slot k with
        classes := es.foldl (fun t e => t.set e.1.val e.2) (s.slot k).classes } →
      exec (.loadClasses tag slot xs) s = .next (((s.setSlot k v).answer tag 0x33 .done
        (u16 (v.classes.toList.filter ClassEntry.defined).length)).transmit)) ∧
    (∀ (before : List ClassItem) x after, (∀ y ∈ before, classEntryOf y ≠ none) →
      classEntryOf x = none →
      exec (.loadClasses tag slot (before ++ x :: after)) s =
        .next (s.answer tag 0x33 .badValue (u16 before.length)).transmit) ∧
    (∀ xs : List SettingItem, (∀ x ∈ xs, applySetting (s.slot k).settings x ≠ none) →
      exec (.loadSettings tag slot xs) s = .next (((s.setSlot k { s.slot k with
        settings := xs.foldl (fun st x => (applySetting st x).getD st) (s.slot k).settings }).answer
          tag 0x35 .done []).transmit)) ∧
    (∀ (before : List SettingItem) x after,
      (∀ y ∈ before, applySetting (s.slot k).settings y ≠ none) →
      applySetting (s.slot k).settings x = none →
      exec (.loadSettings tag slot (before ++ x :: after)) s =
        .next (s.answer tag 0x35 .badValue (u16 before.length)).transmit))

/-- PLAN CHECK and the completion of a check: BUSY while the checker is; a LOADING slot enters
CHECKING; EMPTY is NOT OPEN; READY, ACTIVE and RETIRING are PROTECTED. At the completion the slot is
READY or back in LOADING by the checker's verdict, which PlanCheckerVerdict states and its last
check outcome and the PLAN CHECKED notice carry. -/
def Obligations.PlanCheckAndCompletion : Prop :=
  (∀ (tag slot : Nat) (k : SlotId) (s : State), s.TakesAtOnce → slotOf slot = some k →
    (s.checker ≠ none →
      exec (.planCheck tag slot) s = .next (s.answer tag 0x36 .busy []).transmit) ∧
    (s.checker = none →
      ((s.slot k).state = .loading → exec (.planCheck tag slot) s = .next
        ((({ s.setSlot k { s.slot k with state := .checking } with
          checker := some ⟨k, 10 + 2 * ((s.slot k).formats.length + (s.slot k).ranges.length +
            (s.slot k).doctypes.length)⟩ }).answer tag 0x36 .done []).transmit)) ∧
      ((s.slot k).state = .empty →
        exec (.planCheck tag slot) s = .next (s.answer tag 0x36 .notOpen []).transmit) ∧
      ((s.slot k).state = .ready ∨ (s.slot k).state = .active ∨ (s.slot k).state = .retiring →
        exec (.planCheck tag slot) s = .next (s.answer tag 0x36 .protected_ []).transmit))) ∧
  (∀ (k : SlotId) (us : Nat) (s : State), s.Quiet → s.checker = some ⟨k, us⟩ →
    ((s.slot k).checkError = none → exec .checkCompletion s = .next
      (((({ s with checker := none }).setSlot k { s.slot k with
        state := .ready, lastCheck := .pass }).raise (.planChecked k none)).transmit)) ∧
    (∀ e, (s.slot k).checkError = some e → exec .checkCompletion s = .next
      (((({ s with checker := none }).setSlot k { s.slot k with
        state := .loading, lastCheck := .fail e }).raise (.planChecked k (some e))).transmit)))

/-- The verdict of the plan checker. A slot passes exactly when no test fails; otherwise the error
is the first failing test: the tables in the order FORMAT, RANGE, DOCTYPE, SETTINGS, CLASS, the
entries of each in position order, and for an entry the tests in their rules' order, which is that
of their codes. FORMAT FIELD: a field reaches the check digit, or both fields share a position.
FORMAT SHADOWED: an earlier entry has the same digits and code length. RANGE INVERTED: low above
high. RANGE ORDER: low not above the high of the entry before. CLASS UNDEFINED: the class of a range
or doctype entry, or the default class, is undefined. DOCTYPE DUPLICATE: an earlier entry has the
doctype. SERVICE UNDEFINED: under PLAN routing a class 0 to 7 is undefined. A slot that passes thus
has an ascending, non-overlapping range table, formats whose fields lie clear of the check digit and
of each other, and a defined class wherever its tables or settings name one. -/
def Obligations.PlanCheckerVerdict : Prop :=
  (∀ (k : PlanSlot) (c : Nat),
    k.classDefined c = true ↔ ∃ h : c < 64, k.classes[c].defined = true) ∧
  (∀ (k : PlanSlot) (fails : TableId → Nat → ErrorKind → Prop) (rank : TableId → Nat),
    [TableId.format, .range, .doctype, .settings, .cls].map rank = [0, 1, 2, 3, 4] →
    (∀ t i e, fails t i e ↔ match t, e with
      | .format, .formatField => ∃ f, k.formats[i]? = some f ∧
          (f.codeLength < f.accountStart + f.accountLength ∨
            f.doctypeLength ≠ 0 ∧ (f.codeLength < f.doctypeStart + f.doctypeLength ∨
              f.accountStart < f.doctypeStart + f.doctypeLength ∧
                f.doctypeStart < f.accountStart + f.accountLength))
      | .format, .formatShadowed => ∃ f, k.formats[i]? = some f ∧ ∃ j x, j < i ∧
          k.formats[j]? = some x ∧ x.pfx = f.pfx ∧ x.codeLength = f.codeLength
      | .range, .rangeInverted => ∃ r, k.ranges[i]? = some r ∧ r.high < r.low
      | .range, .rangeOrder => ∃ r, k.ranges[i]? = some r ∧ ∃ j x, i = j + 1 ∧
          k.ranges[j]? = some x ∧ r.low ≤ x.high
      | .range, .classUndefined => ∃ r, k.ranges[i]? = some r ∧ k.classDefined r.cls = false
      | .doctype, .classUndefined => ∃ d, k.doctypes[i]? = some d ∧ k.classDefined d.cls = false
      | .doctype, .doctypeDuplicate => ∃ d, k.doctypes[i]? = some d ∧ ∃ j x, j < i ∧
          k.doctypes[j]? = some x ∧ x.doctype = d.doctype
      | .settings, .classUndefined => i = 0 ∧ k.classDefined k.settings.defaultClass = false
      | .cls, .serviceUndefined => k.settings.serviceRouting = .plan ∧ i ≤ 7 ∧
          k.classDefined i = false
      | _, _ => False) →
    (k.checkError = none ↔ ∀ t i e, ¬ fails t i e) ∧
    (∀ t i e, fails t i e →
      (∀ t' j e', fails t' j e' →
        rank t < rank t' ∨ t = t' ∧ (i < j ∨ i = j ∧ e.code ≤ e'.code)) →
      k.checkError = some ⟨t, i, e⟩)) ∧
  ∀ k : PlanSlot, k.checkError = none →
    k.ranges.Pairwise (fun a b => a.high < b.low) ∧
    (∀ e ∈ k.ranges, e.low ≤ e.high ∧ k.classDefined e.cls = true) ∧
    (∀ f ∈ k.formats, f.accountStart + f.accountLength ≤ f.codeLength ∧
      (f.doctypeLength ≠ 0 → f.doctypeStart + f.doctypeLength ≤ f.codeLength ∧
        (f.accountStart + f.accountLength ≤ f.doctypeStart ∨
          f.doctypeStart + f.doctypeLength ≤ f.accountStart))) ∧
    k.doctypes.Pairwise (fun a b => a.doctype ≠ b.doctype) ∧
    (∀ e ∈ k.doctypes, k.classDefined e.cls = true) ∧
    k.classDefined k.settings.defaultClass = true ∧
    (k.settings.serviceRouting = .plan → ∀ c : Nat, c ≤ 7 → k.classDefined c = true)

/-- PLAN SWITCH by the target's state: READY and RETIRING become ACTIVE, the old ACTIVE slot
becoming RETIRING with references and READY without, which the response carries (NONE where there
was none); ACTIVE is DONE without effect; EMPTY, LOADING and CHECKING are refused NOT READY. -/
def Obligations.PlanSwitchByState : Prop :=
  ∀ (tag slot : Nat) (k : SlotId) (s : State), s.TakesAtOnce → slotOf slot = some k →
    ((s.slot k).state = .ready ∨ (s.slot k).state = .retiring →
      ((s.slot (otherSlot k)).state = .active → ∀ st : SlotState,
        st = (if 0 < (s.slot (otherSlot k)).refs then .retiring else .ready) →
        exec (.planSwitch tag slot) s = .next ((((s.setSlot k { s.slot k with
          state := .active }).setSlot (otherSlot k) { s.slot (otherSlot k) with
            state := st }).answer tag 0x37 .done (u8 st.code)).transmit)) ∧
      ((s.slot (otherSlot k)).state ≠ .active →
        exec (.planSwitch tag slot) s = .next (((s.setSlot k { s.slot k with
          state := .active }).answer tag 0x37 .done (u8 0)).transmit))) ∧
    ((s.slot k).state = .active →
      exec (.planSwitch tag slot) s = .next (s.answer tag 0x37 .done (u8 0)).transmit) ∧
    ((s.slot k).state = .empty ∨ (s.slot k).state = .loading ∨ (s.slot k).state = .checking →
      exec (.planSwitch tag slot) s = .next (s.answer tag 0x37 .notReady []).transmit)

/-- PLAN STATUS and PLAN READ change nothing but the response queue; PLAN READ answers the entry at
a position below the count, BAD INDEX at or beyond it, a class 0 to 63, the settings, and BAD VALUE
for a class of 64 or more or an unknown table. The slot groups of PLAN STATUS and the entries of
PLAN READ are spelled out field by field. (The items after a last check outcome that is not FAIL,
and the layout of a format entry, are the model's reading, assumption logs 38 and 42.) -/
def Obligations.PlanReports : Prop :=
  (∀ (tag slot index : Nat) (k : SlotId) (s : State), s.TakesAtOnce → slotOf slot = some k →
    exec (.planStatus tag) s = .next (s.answer tag 0x38 .done
      (optField 1 (s.activeSlot.map slotNum) ++ optField 1 (s.checker.map (fun c => slotNum c.slot)) ++
        s.slot0.statusFields ++ s.slot1.statusFields)).transmit ∧
    (∀ e, (s.slot k).formats[index]? = some e → exec (.planRead tag slot 1 index) s =
      .next (s.answer tag 0x39 .done (e.fields ++ u16 (s.slot k).formats.length)).transmit) ∧
    ((s.slot k).formats.length ≤ index → exec (.planRead tag slot 1 index) s =
      .next (s.answer tag 0x39 .badIndex (u16 (s.slot k).formats.length)).transmit) ∧
    (∀ e, (s.slot k).ranges[index]? = some e → exec (.planRead tag slot 2 index) s =
      .next (s.answer tag 0x39 .done (e.fields ++ u16 (s.slot k).ranges.length)).transmit) ∧
    ((s.slot k).ranges.length ≤ index → exec (.planRead tag slot 2 index) s =
      .next (s.answer tag 0x39 .badIndex (u16 (s.slot k).ranges.length)).transmit) ∧
    (∀ h : index < 64, exec (.planRead tag slot 3 index) s =
      .next (s.answer tag 0x39 .done ((s.slot k).classes[index].fields)).transmit) ∧
    (64 ≤ index → exec (.planRead tag slot 3 index) s =
      .next (s.answer tag 0x39 .badValue []).transmit) ∧
    (∀ e, (s.slot k).doctypes[index]? = some e → exec (.planRead tag slot 4 index) s =
      .next (s.answer tag 0x39 .done (e.fields ++ u16 (s.slot k).doctypes.length)).transmit) ∧
    ((s.slot k).doctypes.length ≤ index → exec (.planRead tag slot 4 index) s =
      .next (s.answer tag 0x39 .badIndex (u16 (s.slot k).doctypes.length)).transmit) ∧
    exec (.planRead tag slot 5 index) s =
      .next (s.answer tag 0x39 .done (s.slot k).settings.fields).transmit ∧
    (∀ t, t = 0 ∨ 6 ≤ t → exec (.planRead tag slot t index) s =
      .next (s.answer tag 0x39 .badValue []).transmit)) ∧
  (∀ k : PlanSlot, k.statusFields = u8 k.state.code ++ u16 k.refs ++ u16 k.formats.length ++
    u16 k.formatsPtr ++ u16 k.ranges.length ++ u16 k.rangesPtr ++ u16 k.doctypes.length ++
    u16 k.doctypesPtr ++ u16 (k.classes.toList.filter ClassEntry.defined).length ++
    u16 k.settings.label ++ (match k.lastCheck with
      | .none => [0#8] ++ [0#8, 0xFF#8, 0xFF#8, 0#8]
      | .pass => [1#8] ++ [0#8, 0xFF#8, 0xFF#8, 0#8]
      | .fail e => [2#8] ++ (u8 e.table.code ++ u16 e.index ++ u8 e.kind.code)
      | .abandoned => [3#8] ++ [0#8, 0xFF#8, 0xFF#8, 0#8])) ∧
  (∀ f : FormatEntry, f.fields = u8 f.number ++ u8 f.pfx.length ++
    (f.pfx.map (fun d => BitVec.ofNat 8 (0x30 + d.val)) ++ List.replicate (4 - f.pfx.length) 0x30#8) ++
    u8 f.codeLength ++ u8 f.accountStart ++ u8 f.accountLength ++ u8 f.doctypeStart ++
    u8 f.doctypeLength ++ u8 f.scheme.code) ∧
  (∀ e : RangeEntry, e.fields = u40 e.low ++ u40 e.high ++ u8 e.cls) ∧
  (∀ e : ClassEntry, e.fields = bit e.defined ++ u8 e.bins0.primary ++ optField 1 e.bins0.overflow ++
    u8 e.bins1.primary ++ optField 1 e.bins1.overflow) ∧
  (∀ e : DoctypeEntry, e.fields = u16 e.doctype ++ u8 e.cls ++ u8 e.strength.code) ∧
  (∀ st : Settings, st.fields = u8 st.defaultClass ++ u8 st.serviceRouting.code ++
    u8 (if st.directoryUse then 2 else 1) ++ u8 st.policy.code ++ u16 st.label)

/-! ### Hot list and directory -/

/-- On an ordered list. HOT ADD: BAD VALUE for an account above 999,999,999,999 or a class outside 8
to 63; with the account present its class is replaced and its index and old class answered; else,
below 256 entries, the entry is inserted where every entry before it is lower and every entry behind
it higher; else FULL. HOT DELETE: the entry with the account is removed, its class and index
answered, the rest keeping their order; NOT FOUND without one. HOT CLEAR empties the list and
reports how many it removed. HOT READ answers the entry at an index, or BAD INDEX. Every answer,
refusals among them, carries the entry count as it stands after the request. (Its place among the
results is the model's reading, assumption log 21.) -/
def Obligations.HotListRequests : Prop :=
  (∀ (tag account cls : Nat) (s : State), s.TakesAtOnce →
    s.hot.Pairwise (fun a b => a.account < b.account) →
    (999999999999 < account ∨ cls < 8 ∨ 63 < cls →
      exec (.hotAdd tag account cls) s = .next (s.answer tag 0x40 .badValue (u16 s.hot.length)).transmit) ∧
    (account ≤ 999999999999 → 8 ≤ cls → cls ≤ 63 →
      (∀ before old after, s.hot = before ++ ⟨account, old⟩ :: after →
        exec (.hotAdd tag account cls) s = .next
          ((({ s with hot := before ++ (⟨account, cls⟩ : HotEntry) :: after }).answer tag 0x40 .replaced
            (u16 before.length ++ u8 old ++ u16 s.hot.length)).transmit)) ∧
      (∀ before after, s.hot = before ++ after → (∀ e ∈ before, e.account < account) →
        (∀ e ∈ after, account < e.account) →
        (s.hot.length < 256 → exec (.hotAdd tag account cls) s = .next
          ((({ s with hot := before ++ (⟨account, cls⟩ : HotEntry) :: after }).answer tag 0x40 .done
            (u16 before.length ++ u16 (s.hot.length + 1))).transmit)) ∧
        (256 ≤ s.hot.length →
          exec (.hotAdd tag account cls) s = .next (s.answer tag 0x40 .full (u16 s.hot.length)).transmit)))) ∧
  (∀ (tag account index : Nat) (s : State), s.TakesAtOnce →
    s.hot.Pairwise (fun a b => a.account < b.account) →
    (999999999999 < account →
      exec (.hotDelete tag account) s = .next (s.answer tag 0x41 .badValue (u16 s.hot.length)).transmit) ∧
    (account ≤ 999999999999 →
      (∀ before cls after, s.hot = before ++ ⟨account, cls⟩ :: after →
        exec (.hotDelete tag account) s = .next ((({ s with hot := before ++ after }).answer tag 0x41
          .done (u8 cls ++ u16 before.length ++ u16 (s.hot.length - 1))).transmit)) ∧
      ((∀ e ∈ s.hot, e.account ≠ account) →
        exec (.hotDelete tag account) s = .next (s.answer tag 0x41 .notFound (u16 s.hot.length)).transmit)) ∧
    exec (.hotClear tag) s = .next ((({ s with hot := [] }).answer tag 0x42 .done
      (u16 s.hot.length ++ u16 0)).transmit) ∧
    (∀ e, s.hot[index]? = some e → exec (.hotRead tag index) s = .next (s.answer tag 0x43 .done
      (u40 e.account ++ u8 e.cls ++ u16 s.hot.length)).transmit) ∧
    (s.hot.length ≤ index →
      exec (.hotRead tag index) s = .next (s.answer tag 0x43 .badIndex (u16 s.hot.length)).transmit))

/-- DIRECTORY SET is refused BAD VALUE for an odd base or one above 1,048,575, an N above 262,144,
an extent beyond 1,048,576 words or a wait limit outside 1 to 255; else the three values are
written, the failed flag and both timeout counts are cleared, and port, lines and a search in hand
are left alone. DIRECTORY STATUS reports and changes nothing. (The width of the consecutive count in
the response and the line levels as 1 and 0 are the model's reading, assumption logs 28 and 29.) -/
def Obligations.DirectorySetAndStatus : Prop :=
  ∀ (tag base count wait : Nat) (s : State), s.TakesAtOnce →
    (base % 2 = 1 ∨ 1048575 < base ∨ 262144 < count ∨ 1048576 < base + 2 * count ∨ wait < 1 ∨
        255 < wait →
      exec (.directorySet tag base count wait) s = .next (s.answer tag 0x48 .badValue []).transmit) ∧
    (base % 2 = 0 → base ≤ 1048575 → count ≤ 262144 → base + 2 * count ≤ 1048576 → 1 ≤ wait →
      wait ≤ 255 →
      exec (.directorySet tag base count wait) s = .next ((({ s with dir := { s.dir with
        base := base
        count := count
        waitLimit := wait
        failed := false
        consecutive := 0
        timeouts := 0 } }).answer tag 0x48 .done []).transmit)) ∧
    exec (.directoryStatus tag) s = .next (s.answer tag 0x49 .done
      (u24 s.dir.base ++ u24 s.dir.count ++ u8 s.dir.waitLimit ++ u8 s.dir.port.code ++
        bit s.dir.failed ++ u16 s.dir.consecutive ++ u16 s.dir.timeouts ++ bit s.dir.holdLine ++
        bit s.dir.holdAck ++ bit s.dir.wanted)).transmit

/-- HOLD: its assertion grants the RAM at once in IDLE, turns PROBING into YIELDING and changes no
other state of the port; its deassertion in HELD ends the hold, and changes nothing in IDLE, PROBING
and YIELDING but the line. READY: an assertion that finds READY asserted already, or no read under
way, changes nothing but the line; during the read of word 0 it takes the word and begins the read
of word 1 at the next word address; during the read of word 1 it completes the probe. A deassertion
only rearms the line. -/
def Obligations.HoldAndReadyLines : Prop :=
  (∀ s : State, s.Quiet →
    (s.dir.port = .idle → ∃ d : Directory,
      d = { s.dir with holdLine := true, port := .held, holdAck := true } ∧
      exec .holdAsserted s = .next ((({ s with dir := d }).raise
        (.directory .holdGranted .held d.failed d.consecutive d.timeouts)).transmit)) ∧
    (s.dir.port = .probing →
      exec .holdAsserted s = .next ((({ s with dir := { s.dir with
        holdLine := true, port := .yielding } } : State)).transmit)) ∧
    (s.dir.port = .yielding ∨ s.dir.port = .held →
      exec .holdAsserted s = .next ((({ s with dir := { s.dir with holdLine := true } } : State)).transmit)) ∧
    (s.dir.port = .held → ∃ d : Directory,
      d = { s.dir with holdLine := false, port := .idle, holdAck := false, wanted := false } ∧
      exec .holdDeasserted s = .next ((({ s with dir := d }).raise
        (.directory .holdReleased .idle d.failed d.consecutive d.timeouts)).transmit)) ∧
    (s.dir.port ≠ .held →
      exec .holdDeasserted s =
        .next ((({ s with dir := { s.dir with holdLine := false } } : State)).transmit))) ∧
  (∀ (w : DirWord) (s : State), s.Quiet →
    (s.dir.readyLine = true → exec (.readyAsserted w) s = .next s.transmit) ∧
    (s.dir.readyLine = false → s.dir.readLine = false →
      exec (.readyAsserted w) s =
        .next ((({ s with dir := { s.dir with readyLine := true } } : State)).transmit)) ∧
    (s.dir.readyLine = false → s.dir.readLine = true → ∀ q : Search, s.dir.search = some q →
      (q.word0 = none → exec (.readyAsserted w) s = .next ((({ s with dir := { s.dir with
        readyLine := true
        readLine := true
        search := some { q with word0 := some w }
        address := some (BitVec.ofNat 20 (q.base + 2 * ((q.low + (q.stop - 1)) / 2) + 1)) } } :
          State)).transmit)) ∧
      (∀ w0, q.word0 = some w0 → exec (.readyAsserted w) s =
        .next ((({ s with dir := { s.dir with readyLine := true } } : State).probeComplete q w0
          w).transmit))) ∧
    exec .readyDeasserted s = .next { s with dir := { s.dir with readyLine := false } })

/-- A probe completed in YIELDING ends the search UNAVAILABLE, whatever it found. A completed probe
of entry mid in PROBING, whose account is the 40-bit number of its two words: the search ends FOUND
with the entry's class where it equals the key, and else goes on in the half that may hold the key,
at its middle entry, or ends NOT FOUND when that half is empty. The consecutive timeout count
becomes 0. The end of a search without a timeout: the port returns to IDLE, or enters HELD with HOLD
ACK asserted when HOLD was asserted during the search and still stands, with WANTED for an
UNAVAILABLE result; the result is handed to the engine, and a hold so granted is reported after it.
(The order of the result and the notice is the model's reading, assumption log 16.) -/
def Obligations.SearchHalvesAndEnds : Prop :=
  (∀ (q : Search) (w0 w1 : DirWord) (s u : State) (mid account : Nat),
    s.dir.port = .probing → mid = (q.low + (q.stop - 1)) / 2 →
    account = w0.toNat + 4294967296 * (w1.toNat % 256) →
    u = { s with dir := { s.dir with consecutive := 0 } } →
    (account = q.account →
      s.probeComplete q w0 w1 = u.endSearch (.found (w1.toNat / 256 % 64))) ∧
    (q.account < account → q.low < mid → s.probeComplete q w0 w1 = { u with dir := { u.dir with
      search := some { q with stop := mid, word0 := none }
      readLine := true
      address := some (BitVec.ofNat 20 (q.base + 2 * ((q.low + (mid - 1)) / 2))) } }) ∧
    (q.account < account → mid ≤ q.low → s.probeComplete q w0 w1 = u.endSearch .notFound) ∧
    (account < q.account → mid + 1 < q.stop → s.probeComplete q w0 w1 = { u with dir := { u.dir with
      search := some { q with low := mid + 1, word0 := none }
      readLine := true
      address := some (BitVec.ofNat 20 (q.base + 2 * ((mid + 1 + (q.stop - 1)) / 2))) } }) ∧
    (account < q.account → q.stop ≤ mid + 1 → s.probeComplete q w0 w1 = u.endSearch .notFound)) ∧
  (∀ (q : Search) (w0 w1 : DirWord) (s : State), s.dir.port = .yielding →
    s.probeComplete q w0 w1 =
      ({ s with dir := { s.dir with consecutive := 0 } } : State).endSearch .unavailable) ∧
  (∀ (r : SearchResult) (s : State),
    (s.dir.port ≠ .yielding ∨ s.dir.holdLine = false →
      s.endSearch r = ({ s with dir := { s.dir with
        search := none, readLine := false, address := none, port := .idle } } : State).handResult r) ∧
    (s.dir.port = .yielding → s.dir.holdLine = true → ∀ u : State,
      u = ({ s with dir := { s.dir with
        search := none
        readLine := false
        address := none
        port := .held
        holdAck := true
        wanted := decide (r = .unavailable) } } : State).handResult r →
      s.endSearch r =
        u.raise (.directory .holdGranted u.dir.port u.dir.failed u.dir.consecutive u.dir.timeouts)) ∧
    (∀ j, s.lookup.engine = some j → j.stage = .directory → s.handResult r = s.directoryResult j r))

/-- A timeout of a word read: the search ends, both counts rise (the consecutive one to 2 at most,
the counter to 65,535 at most), a TIMEOUT notice is raised, at 2 the failed flag is set and a FAILED
notice follows, and the result TIMEOUT is handed to the engine. In PROBING, and in YIELDING with
HOLD deasserted by then, the port is then IDLE; in YIELDING with HOLD asserted it is HELD with HOLD
ACK asserted and WANTED not, and HOLD GRANTED is raised after the result. With no read under way the
command changes nothing. (The order of the notices and the result, and that the command changes
nothing out of place, are the model's readings, assumption logs 16 and 4.) -/
def Obligations.ReadTimeoutCounts : Prop :=
  ∀ (s : State) (d h : Directory) (handed : Directory → State), s.Quiet →
    d = { s.dir with
      port := .idle
      search := none
      readLine := false
      address := none
      consecutive := min 2 (s.dir.consecutive + 1)
      timeouts := min 65535 (s.dir.timeouts + 1)
      failed := s.dir.failed || decide (2 ≤ s.dir.consecutive + 1) } →
    h = { d with port := .held, holdAck := true, wanted := false } →
    (∀ x : Directory, handed x = (if s.dir.consecutive = 0 then
        (({ s with dir := x } : State).raise
          (.directory .timeout x.port x.failed x.consecutive x.timeouts))
      else ((({ s with dir := x } : State).raise
          (.directory .timeout x.port x.failed x.consecutive x.timeouts)).raise
            (.directory .failed x.port x.failed x.consecutive x.timeouts))).handResult .timeout) →
    (s.dir.readLine = false → exec .readTimeout s = .next s.transmit) ∧
    (s.dir.readLine = true →
      (s.dir.port = .probing ∨ s.dir.port = .yielding ∧ s.dir.holdLine = false →
        exec .readTimeout s = .next (handed d).settle) ∧
      (s.dir.port = .yielding → s.dir.holdLine = true →
        exec .readTimeout s = .next ((handed h).raise (.directory .holdGranted (handed h).dir.port
          (handed h).dir.failed (handed h).dir.consecutive (handed h).dir.timeouts)).settle))

/-! ### Lookups -/

/-- QUERY is refused BAD VALUE for an account above 999,999,999,999 or a doctype above 999, then NOT
READY for a slot EMPTY, LOADING or CHECKING, then BUSY with 8 requests waiting; else it joins the
tail of the queue with the next arrival number, takes a reference on its slot and reserves a
response place, and a grant may follow. ARBITER SET writes the priorities and the age limit, the
queue and the pass count kept, or is refused BAD VALUE for a priority above 3 or an age limit above
255. (That an age limit of 0 keeps the pass count until the next grant is the model's reading,
assumption log 20.) -/
def Obligations.QueryAndArbiterSet : Prop :=
  (∀ (tag slot account : Nat) (doctype : Option Nat) (k : SlotId) (s : State),
    s.TakesAtOnce → slotOf slot = some k →
    (999999999999 < account ∨ (∃ d, doctype = some d ∧ 999 < d) →
      exec (.query tag slot account doctype) s = .next (s.answer tag 0x50 .badValue []).transmit) ∧
    (account ≤ 999999999999 → (∀ d, doctype = some d → d ≤ 999) →
      ((s.slot k).state = .empty ∨ (s.slot k).state = .loading ∨ (s.slot k).state = .checking →
        exec (.query tag slot account doctype) s = .next (s.answer tag 0x50 .notReady []).transmit) ∧
      ((s.slot k).state = .ready ∨ (s.slot k).state = .active ∨ (s.slot k).state = .retiring →
        (8 ≤ s.lookup.queue.length →
          exec (.query tag slot account doctype) s = .next (s.answer tag 0x50 .busy []).transmit) ∧
        (s.lookup.queue.length < 8 →
          exec (.query tag slot account doctype) s = .next (((({ s with
            lookup := { s.lookup with
              queue := s.lookup.queue ++
                [(⟨.query tag, account, doctype, k, s.lookup.nextArrival⟩ : LookupRequest)]
              nextArrival := s.lookup.nextArrival + 1 }
            link := { s.link with reserved := s.link.reserved + 1 } } : State).setSlot k { s.slot k with
              refs := (s.slot k).refs + 1 }).grant).transmit))))) ∧
  (∀ (tag p0 p1 age : Nat) (s : State), s.TakesAtOnce →
    (3 < p0 ∨ 3 < p1 ∨ 255 < age →
      exec (.arbiterSet tag p0 p1 age) s = .next (s.answer tag 0x51 .badValue []).transmit) ∧
    (p0 ≤ 3 → p1 ≤ 3 → age ≤ 255 →
      exec (.arbiterSet tag p0 p1 age) s = .next ((({ s with lookup := { s.lookup with
        priority0 := p0, priority1 := p1, ageLimit := age } }).answer tag 0x51 .done []).transmit)))

/-- The arbiter grants nothing while the engine is busy or the queue is empty. Otherwise it grants
the oldest request when aging applies, else the oldest of those of the highest priority; the others
keep their order, the engine begins the HOT stage with no result and clear flags, the pass count
returns to 0 when the oldest was granted, the queue is left empty or aging is off and rises by one
to 255 at most otherwise, and the record of a lane request takes the lookup state IN PROGRESS. -/
def Obligations.ArbiterGrants : Prop :=
  ∀ s : State,
    (s.lookup.engine ≠ none ∨ s.lookup.queue = [] → s.grant = s) ∧
    (∀ (before : List LookupRequest) (r : LookupRequest) (after : List LookupRequest)
        (prio : LookupRequest → Nat) (u : State),
      (∀ x, prio x = match x.requester with
        | .piece .lane0 _ => s.lookup.priority0
        | .piece .lane1 _ => s.lookup.priority1
        | .query _ => 0) →
      s.lookup.engine = none → s.lookup.queue = before ++ r :: after →
      (if 1 ≤ s.lookup.ageLimit ∧ s.lookup.ageLimit ≤ s.lookup.passCount then before = []
        else (∀ x ∈ before, prio x < prio r) ∧ ∀ x ∈ after, prio x ≤ prio r) →
      u = { s with lookup := { s.lookup with
        queue := before ++ after
        engine := some ⟨r, .hot, none, ⟨false, false, false⟩⟩
        passCount := if before ++ after = [] ∨ s.lookup.ageLimit = 0 ∨ before = [] then 0
          else min 255 (s.lookup.passCount + 1) } } →
      (∀ l n, r.requester = .piece l n →
        s.grant = u.modPiece l n (fun p => { p with lookup := .inProgress })) ∧
      (∀ t, r.requester = .query t → s.grant = u))

/-- The hot list gives an account the class of the entry that carries it, and none without one. HOT,
RANGE, DEFAULT and DOCTYPE stage completions, taken while the engine stands in the stage. HOT: a
class the hot list gives and the slot defines ends the lookup with source HOT; one the slot does not
define sets HOT-UNDEFINED and the lookup goes on; with no entry it goes on. RANGE: a covering entry
gives its class, else DEFAULT follows. DEFAULT gives the default class. DOCTYPE: no entry lets the
result stand, STRONG replaces it, WEAK replaces a DEFAULT result alone, and the lookup ends. Out of
its stage a completion changes nothing (assumption log 4). -/
def Obligations.StagesComplete : Prop :=
  (∀ (hot : List HotEntry) (account c : Nat), hot.Pairwise (fun a b => a.account < b.account) →
    (hotClass hot account = some c ↔ ⟨account, c⟩ ∈ hot)) ∧
  (∀ (hot : List HotEntry) (account : Nat),
    hotClass hot account = none ↔ ∀ e ∈ hot, e.account ≠ account) ∧
  (∀ (j : Job) (s : State), s.Quiet → s.lookup.engine = some j →
    (j.stage = .hot →
      (∀ c, hotClass s.hot j.request.account = some c →
        ((s.slot j.request.slot).classDefined c = true → exec .hotStageComplete s =
          .next (s.endLookup { j with result := some (c, .hot) }).settle) ∧
        ((s.slot j.request.slot).classDefined c = false → exec .hotStageComplete s =
          .next (s.afterHot { j with flags := { j.flags with hotUndefined := true } }).settle)) ∧
      ((∀ e ∈ s.hot, e.account ≠ j.request.account) →
        exec .hotStageComplete s = .next (s.afterHot j).settle)) ∧
    (j.stage = .range →
      (∀ e, rangeFor (s.slot j.request.slot).ranges j.request.account = some e →
        exec .rangeStageComplete s = .next ((({ s with lookup := { s.lookup with engine := some { j with
          stage := .doctype, result := some (e.cls, .range) } } } : State)).transmit)) ∧
      (rangeFor (s.slot j.request.slot).ranges j.request.account = none →
        exec .rangeStageComplete s = .next ((({ s with lookup := { s.lookup with engine := some { j with
          stage := .default } } } : State)).transmit))) ∧
    (j.stage = .default →
      exec .defaultStageComplete s = .next ((({ s with lookup := { s.lookup with engine := some { j with
        stage := .doctype
        result := some ((s.slot j.request.slot).settings.defaultClass, .default) } } } :
          State)).transmit)) ∧
    (j.stage = .doctype →
      ((j.request.doctype = none ∨ (∃ d, j.request.doctype = some d ∧
          ∀ e ∈ (s.slot j.request.slot).doctypes, e.doctype ≠ d)) →
        exec .doctypeStageComplete s = .next (s.endLookup j).settle) ∧
      (∀ d before e after, j.request.doctype = some d →
        (s.slot j.request.slot).doctypes = before ++ e :: after → e.doctype = d →
        (∀ x ∈ before, x.doctype ≠ d) →
        (e.strength = .strong ∨ (∃ c, j.result = some (c, .default)) → exec .doctypeStageComplete s =
          .next (s.endLookup { j with result := some (e.cls, .doctype) }).settle) ∧
        (e.strength = .weak → (∀ c, j.result ≠ some (c, .default)) →
          exec .doctypeStageComplete s = .next (s.endLookup j).settle))) ∧
    (j.stage ≠ .hot → exec .hotStageComplete s = .next s.transmit) ∧
    (j.stage ≠ .range → exec .rangeStageComplete s = .next s.transmit) ∧
    (j.stage ≠ .default → exec .defaultStageComplete s = .next s.transmit) ∧
    (j.stage ≠ .doctype → exec .doctypeStageComplete s = .next s.transmit))

/-- The search of a range table by halving: what it finds is an entry of the table that covers the
account, and over an ascending table it finds the covering entry whenever there is one. -/
def Obligations.RangeSearchFindsTheCoveringEntry : Prop :=
  ∀ (t : List RangeEntry) (account : Nat),
    (∀ e, rangeFor t account = some e → e ∈ t ∧ e.low ≤ account ∧ account ≤ e.high) ∧
    (t.Pairwise (fun a b => a.high < b.low) → (∀ e ∈ t, e.low ≤ e.high) →
      ∀ e ∈ t, e.low ≤ account → account ≤ e.high → rangeFor t account = some e)

/-- The lookup past HOT: without directory use, or with N 0, it stands in RANGE. Otherwise the port
is asked: an IDLE port without the failed flag begins a search of entries 0 to N − 1 at the middle
one; a failed port answers UNAVAILABLE at once; a HELD port asserts WANTED and answers UNAVAILABLE.
The results: FOUND with a class 8 to 63 the slot defines gives that class with source DIRECTORY, any
other class sets DIR-UNDEFINED and leads to RANGE, NOT FOUND leads to RANGE, and TIMEOUT and
UNAVAILABLE set DIR-FALLBACK and lead to RANGE under FALLBACK or end the lookup with class 4, source
SERVICE, under FAULT. -/
def Obligations.DirectoryStage : Prop :=
  ∀ (j : Job) (s : State) (stand : Job → State),
    (∀ x, stand x = { s with lookup := { s.lookup with engine := some x } }) →
    ((s.slot j.request.slot).settings.directoryUse = false ∨ s.dir.count = 0 →
      s.afterHot j = stand { j with stage := .range }) ∧
    ((s.slot j.request.slot).settings.directoryUse = true → 0 < s.dir.count →
      (s.dir.port = .idle → s.dir.failed = false →
        s.afterHot j = { stand { j with stage := .directory } with dir := { s.dir with
          port := .probing
          search := some ⟨j.request.account, s.dir.base, s.dir.count, s.dir.waitLimit, 0, s.dir.count,
            none⟩
          readLine := true
          address := some (BitVec.ofNat 20 (s.dir.base + 2 * ((s.dir.count - 1) / 2))) } }) ∧
      (s.dir.port = .idle → s.dir.failed = true → s.afterHot j = s.directoryResult j .unavailable) ∧
      (s.dir.port = .held →
        s.afterHot j =
          ({ s with dir := { s.dir with wanted := true } } : State).directoryResult j .unavailable)) ∧
    (∀ c, (8 ≤ c ∧ c ≤ 63 ∧ (s.slot j.request.slot).classDefined c = true →
        s.directoryResult j (.found c) = stand { j with
          stage := .doctype, result := some (c, .directory) }) ∧
      (c < 8 ∨ 63 < c ∨ (s.slot j.request.slot).classDefined c = false →
        s.directoryResult j (.found c) = stand { j with
          stage := .range, flags := { j.flags with dirUndefined := true } })) ∧
    s.directoryResult j .notFound = stand { j with stage := .range } ∧
    (∀ r, r = .timeout ∨ r = .unavailable →
      ((s.slot j.request.slot).settings.policy = .fallback →
        s.directoryResult j r = stand { j with
          stage := .range, flags := { j.flags with dirFallback := true } }) ∧
      ((s.slot j.request.slot).settings.policy = .fault →
        s.directoryResult j r = s.endLookup { j with result := some (4, .service) }))

/-- The delivery of a result: into its record, which becomes DONE and DECIDED with class, source and
flags; discarded and counted, the reference released, when the record is gone; as the QUERY's
response in its reserved place, the reference released after it. The engine is then free and may be
granted the next request. A record that becomes DECIDED with a class, UNROUTED and its lane not
FAULTED, is routed in the same event by the bins of its stamped slot; otherwise only its stage
changes. The bins are derived, and its plan reference is released last. (The place of the BIN STATE
notices and the tag in the header alone are the model's readings, assumption logs 18 and 33.) -/
def Obligations.LookupDeliveredAndRouted : Prop :=
  (∀ (j : Job) (s : State),
    s.endLookup j = ({ s.deliver j with lookup := { (s.deliver j).lookup with engine := none } }).grant ∧
    (∀ l n p, j.request.requester = .piece l n → (s.lane l).piece n = some p →
      s.deliver j = (s.modPiece l n (fun q => { q with
        cls := j.result.map Prod.fst
        source := j.result.map Prod.snd
        flags := j.flags
        lookup := .done })).decidePiece l n (s.lane l)) ∧
    (∀ l n, j.request.requester = .piece l n → (s.lane l).piece n = none →
      s.deliver j = ({ s with link := { s.link with counters := { s.link.counters with
        discardedResults := s.link.counters.discardedResults + 1 } } } : State).releaseRef
          j.request.slot) ∧
    (∀ t, j.request.requester = .query t →
      s.deliver j = (({ s with link := { s.link with reserved := s.link.reserved - 1 } } : State).answer t
        0x50 .done (u8 (slotNum j.request.slot) ++ u40 j.request.account ++
          optField 2 j.request.doctype ++ optField 1 (j.result.map Prod.fst) ++
          u8 ((j.result.map (fun r => r.2.code)).getD 0) ++ bit j.flags.hotUndefined ++
          bit j.flags.dirUndefined ++ bit j.flags.dirFallback)).releaseRef j.request.slot)) ∧
  (∀ (l : LaneId) (n : Nat) (p : Piece) (before L : Lane) (s : State), (s.lane l).piece n = some p →
    L = (s.lane l).modPiece n (fun q => { q with stage := .decided }) →
    (∀ c, p.cls = some c → p.route = .unrouted → (s.lane l).state ≠ .faulted →
      s.decidePiece l n before = (((s.setLane l (L.modPiece n
        (L.routePiece ((s.slot p.slot).routeBins c l)))).deriveBins l before)).releaseRef p.slot) ∧
    (p.cls = none ∨ p.route ≠ .unrouted ∨ (s.lane l).state = .faulted →
      s.decidePiece l n before = ((s.setLane l L).deriveBins l before).releaseRef p.slot))

/-! ### Routing, gates and bins -/

/-- Routing: primary bin 0 sends the record to run-out with CLASS or NOT READY; the primary, else
the overflow bin, is chosen when accepting, that is when its number is at most G, it is not OUT and
its confirmed and pending counts together are below its capacity; with neither, BIN ABSENT when
every bin tried lies beyond G and BIN FULL otherwise. A chosen gate is refused SPEED while CRIT is
set, LATE once the lane position has reached F − M, GAP on a conflict (another record whose body
would reach the gate passes it between F and Rl), and is armed otherwise with F and Rl, its fire
event at F and its expectation window. A service class under BUILT-IN routing has bin 0 alone, every
other class the stored bins of the stamped slot for the lane. The lead counts are the product of
lead time and compensation speed divided by 16,000 and rounded up. -/
def Obligations.RoutingBySteps : Prop :=
  ((∀ (k : PlanSlot) (c : Nat) (l : LaneId), c ≤ 7 → k.settings.serviceRouting = .builtIn →
    k.routeBins c l = ⟨0, none⟩) ∧
  (∀ (k : PlanSlot) (c : Nat) (l : LaneId), (h : c < 64) → 8 ≤ c ∨ k.settings.serviceRouting = .plan →
    k.routeBins c l = (match l with
      | .lane0 => k.classes[c].bins0
      | .lane1 => k.classes[c].bins1)) ∧
  (∀ (L : Lane) (n : Nat) (g : Gate), L.acceptingGate n = some g ↔
    n = g.val + 1 ∧ n ≤ L.constants.gateCount ∧ L.bins[g.val].out = false ∧
      L.bins[g.val].confirmed + (L.track.filter (fun q => q.gate = some g ∧
        (q.route = .armed ∨ q.route = .fired ∨ q.route = .captured))).length < L.bins[g.val].capacity) ∧
  (∀ (L : Lane) (p : Piece) (g : Gate) (f r : Position) (below : Piece → Prop) (meets : Piece → Prop),
    f = behind (ahead p.lead L.constants.gates[g.val].distance)
      (leadCounts L.constants.gates[g.val].leadTime (max L.speed.figure L.constants.speedFloor)) →
    r = ahead (ahead (p.trail.getD (ahead p.lead L.constants.lengthMax))
      L.constants.gates[g.val].distance) L.constants.gates[g.val].dwell →
    (∀ q, below q ↔ ∃ g' : Gate, q.gate = some g' ∧
      (q.route = .armed ∨ q.route = .fired ∨ q.route = .captured) ∧
      (g' = g ∨ g' < g ∧ ¬ (q.route = .captured ∧ L.bins[g'.val].out = true))) →
    (∀ (q : Piece) (a b : Position), a = ahead q.lead L.constants.gates[g.val].distance →
      b = ahead (q.trail.getD (ahead q.lead L.constants.lengthMax)) L.constants.gates[g.val].distance →
      (meets q ↔ fwd a f ≤ fwd a b ∨ fwd f a < fwd f r)) →
    (L.gapConflict p g = true ↔ ∃ q ∈ L.track, q.number ≠ p.number ∧ ¬ below q ∧ meets q)) ∧
  ∀ (L : Lane) (b : LaneBins) (p : Piece) (out : RouteReason → Piece),
    (∀ r, out r = { p with
      route := .runoutBound
      gate := none
      openAt := none
      releaseAt := none
      fireAt := none
      reason := some r
      window := some
        ⟨ahead p.lead L.constants.runoutDistance,
          ahead (ahead (p.trail.getD (ahead p.lead L.constants.lengthMax)) L.constants.runoutDistance)
            L.constants.runoutWindow⟩ }) →
    (b.primary = 0 → L.routePiece b p = out (if p.notReady then .notReady else .cls)) ∧
    (b.primary ≠ 0 → L.acceptingGate b.primary = none → b.overflow.bind L.acceptingGate = none →
      L.routePiece b p = out (if L.constants.gateCount < b.primary ∧
        (∀ o, b.overflow = some o → L.constants.gateCount < o) then .binAbsent else .binFull)) ∧
    (∀ (g : Gate) (reason : RouteReason) (f r trail : Position),
      (b.primary ≠ 0 ∧ L.acceptingGate b.primary = some g ∧ reason = .cls ∨
        b.primary ≠ 0 ∧ L.acceptingGate b.primary = none ∧ b.overflow.bind L.acceptingGate = some g ∧
          reason = .overflow) →
      trail = p.trail.getD (ahead p.lead L.constants.lengthMax) →
      f = behind (ahead p.lead L.constants.gates[g.val].distance)
        (leadCounts L.constants.gates[g.val].leadTime
          (max L.speed.figure L.constants.speedFloor)) →
      r = ahead (ahead trail L.constants.gates[g.val].distance) L.constants.gates[g.val].dwell →
      (L.speed.crit = true → L.routePiece b p = out .speed) ∧
      (L.speed.crit = false →
        (reached (behind f L.constants.guardMargin) L.pos = true → L.routePiece b p = out .late) ∧
        (reached (behind f L.constants.guardMargin) L.pos = false →
          (L.gapConflict p g = true → L.routePiece b p = out .gap) ∧
          (L.gapConflict p g = false → L.routePiece b p = { p with
            route := .armed
            gate := some g
            openAt := some f
            releaseAt := some r
            fireAt := some f
            reason := some reason
            window := some ⟨ahead p.lead L.constants.gates[g.val].distance,
              ahead (ahead trail L.constants.gates[g.val].distance)
                L.constants.gates[g.val].confirm⟩ }))))) ∧
  (∀ leadTime suse : Nat,
    leadTime * suse ≤ 16000 * leadCounts leadTime suse ∧
    (∀ n, leadTime * suse ≤ 16000 * n → leadCounts leadTime suse ≤ n) ∧
    (leadTime ≤ 20000 → suse ≤ 16383 → leadCounts leadTime suse ≤ 20479))

/-- The fire event of an ARMED record makes it FIRED, adds its hold to its gate's hold set and
asserts the gate output; the release event takes the hold out, and the output stays asserted while
another hold stands. Nothing else changes. -/
def Obligations.FireAndRelease : Prop :=
  ∀ (l : LaneId) (n : Nat) (g : Gate) (s : State), s.resetLine = false →
    (s.lane l).state ≠ .faulted →
    (∀ p f r, (s.lane l).piece n = some p → p.route = .armed → p.gate = some g → p.openAt = some f →
      p.releaseAt = some r → due p.fireAt (s.lane l).pos = true →
      exec (.fireEvent l n) s = .next (s.setLane l { s.lane l with
        track := (s.lane l).track.map (fun q =>
          if q.number = n then { q with route := .fired, fireAt := none } else q)
        holds := (s.lane l).holds.set g.val ((s.lane l).holds[g.val] ++ [⟨l, n, f, r⟩])
        gateOut := (s.lane l).gateOut.set g.val true })) ∧
    (∀ before h after, (s.lane l).holds[g.val] = before ++ h :: after → h.piece = n →
      reached h.releaseAt (s.lane l).pos = true →
      (∀ x ∈ before, x.piece ≠ n ∨ reached x.releaseAt (s.lane l).pos = false) →
      exec (.releaseEvent l g n) s = .next (s.setLane l { s.lane l with
        holds := (s.lane l).holds.set g.val (before ++ after)
        gateOut := (s.lane l).gateOut.set g.val (decide (before ++ after ≠ [])) }))

/-- A bin sensor arrival raises the confirmed count, stopping at 65,535, in every lane state. In
FAULTED it is counted as a stray. Otherwise the oldest record of the bin's outstanding list whose
window has opened is finalized DELIVERED and the miss count becomes 0; with none the arrival is
counted and reported as a stray. (The place of the BIN STATE notices is the model's reading,
assumption log 18.) -/
def Obligations.SensorArrivalMatches : Prop :=
  ∀ (l : LaneId) (g : Gate) (s v : State), s.Quiet →
    v = s.setLane l { s.lane l with bins := (s.lane l).bins.set g.val ({ (s.lane l).bins[g.val] with
      confirmed := min 65535 ((s.lane l).bins[g.val].confirmed + 1) } : Bin) } →
    ((s.lane l).state = .faulted →
      exec (.sensorArrival l g) s = .next (((v.countLane l (fun c => { c with
        binStrays := c.binStrays + 1 })).deriveBins l (s.lane l)).transmit)) ∧
    ((s.lane l).state ≠ .faulted →
      (∀ before p after w, (s.lane l).outstanding g = before ++ p :: after → p.window = some w →
        reached w.opens (s.lane l).pos = true →
        (∀ q ∈ before, ∀ w', q.window = some w' → reached w'.opens (s.lane l).pos = false) →
        exec (.sensorArrival l g) s = .next (((((v.modLane l (fun L => L.modBin g (fun b => { b with
          miss := 0 }))).finalize l p .delivered).deriveBins l (s.lane l)).settleJam l).reportEmpty
            l).transmit) ∧
      ((∀ q ∈ (s.lane l).outstanding g, ∀ w', q.window = some w' →
          reached w'.opens (s.lane l).pos = false) →
        exec (.sensorArrival l g) s = .next ((((v.countLane l (fun c => { c with
          binStrays := c.binStrays + 1 })).raise (.stray l (some g))).deriveBins l
            (s.lane l)).transmit)))

/-- The window close of a record at gate g: it is finalized UNCONFIRMED and the consecutive miss
count rises by one, stopping at 7; at the miss limit, the gate still in service, the out-of-service
mark is set, GATE OUT is raised, every record ARMED at g is re-routed as CaptureAndRerouting states,
and the bins are derived from bin g on. (The place of the BIN STATE notices is the model's reading,
assumption log 18.) -/
def Obligations.WindowCloseMisses : Prop :=
  ∀ (l : LaneId) (n : Nat) (g : Gate) (p : Piece) (w : Window) (s v : State), s.Quiet →
    (s.lane l).state ≠ .faulted → (s.lane l).piece n = some p → p.gate = some g →
    p.route = .armed ∨ p.route = .fired ∨ p.route = .captured → p.window = some w →
    reached w.closes (s.lane l).pos = true →
    v = (s.finalize l p .unconfirmed).modLane l (fun L => L.modBin g (fun b => { b with
      miss := min 7 (b.miss + 1) })) →
    ((s.lane l).bins[g.val].out = true ∨
        min 7 ((s.lane l).bins[g.val].miss + 1) < (s.lane l).constants.missLimit →
      exec (.windowClose l n) s =
        .next ((((v.deriveBins l (s.lane l)).settleJam l).reportEmpty l).transmit)) ∧
    ((s.lane l).bins[g.val].out = false →
      (s.lane l).constants.missLimit ≤ min 7 ((s.lane l).bins[g.val].miss + 1) →
      exec (.windowClose l n) s = .next ((((((((v.modLane l (fun L => L.modBin g (fun b => { b with
        out := true }))).raise (.gateOut l g)).modLane l (fun L => L.rerouteAll g)).deriveBinsIn l
          (s.lane l) (g :: allGates.filter (fun x => x ≠ g))).settleJam l).reportEmpty l).transmit)))

/-- The run-out tray: a leading edge raises the run-out confirmed count, stopping at 65,535, and
finalizes the oldest run-out record whose window has opened as ARRIVED with the lost count back at
0; with none, and in FAULTED, it is a stray, reported outside FAULTED alone. The window close of a
run-out record finalizes it LOST and raises the lost count, stopping at 15; at the jam limit a JAM
report waits for the other closes of its position. (The field jamPending is the model's, assumption
log 15.) -/
def Obligations.RunoutArrivalsAndLosses : Prop :=
  (∀ L : Lane, L.runoutList = L.track.filter (fun p => p.route = .runoutBound)) ∧
  ∀ (l : LaneId) (s v : State), s.Quiet →
    v = s.setLane l { s.lane l with runoutConfirmed := min 65535 ((s.lane l).runoutConfirmed + 1) } →
    ((s.lane l).state = .faulted →
      exec (.runoutLeadingEdge l) s = .next ((v.countLane l (fun c => { c with
        runoutStrays := c.runoutStrays + 1 })).transmit)) ∧
    ((s.lane l).state ≠ .faulted →
      (∀ before p after w, (s.lane l).runoutList = before ++ p :: after → p.window = some w →
        reached w.opens (s.lane l).pos = true →
        (∀ q ∈ before, ∀ w', q.window = some w' → reached w'.opens (s.lane l).pos = false) →
        exec (.runoutLeadingEdge l) s = .next ((((((v.modLane l (fun L => { L with
          lostCount := 0 })).finalize l p .arrived).deriveBins l (s.lane l)).settleJam l).reportEmpty
            l).transmit)) ∧
      ((∀ q ∈ (s.lane l).runoutList, ∀ w', q.window = some w' →
          reached w'.opens (s.lane l).pos = false) →
        exec (.runoutLeadingEdge l) s = .next (((v.countLane l (fun c => { c with
          runoutStrays := c.runoutStrays + 1 })).raise (.stray l none)).transmit)) ∧
      (∀ n p w k, (s.lane l).piece n = some p → p.route = .runoutBound → p.window = some w →
        reached w.closes (s.lane l).pos = true → k = min 15 ((s.lane l).lostCount + 1) →
        exec (.runoutWindowClose l n) s = .next ((((((s.finalize l p .lost).modLane l (fun L => { L with
          lostCount := k
          jamPending := if (s.lane l).constants.jamLimit ≤ k then some w.closes
            else L.jamPending })).deriveBins l (s.lane l)).settleJam l).reportEmpty l).transmit)))

/-- A bin's state follows its mark, its limits and its confirmed and pending counts; an event raises
one BIN STATE notice for each bin it brought into NEAR-FULL, FULL or OUT, in ascending bin number.
BIN LIMITS writes both limits in range and derives the bin's state; BIN SWAP sets the confirmed
count of the bin, or of the run-out tray for bin 0, to 0 and answers the count before; GATE RESTORE
clears the out-of-service mark and the miss count. A bin, limit or gate out of range is refused BAD
VALUE. (The ascending order of the notices is the model's reading, assumption log 18.) -/
def Obligations.BinRequests : Prop :=
  (∀ (L : Lane) (g : Gate), L.outstanding g = L.track.filter (fun p => p.gate = some g ∧
    (p.route = .armed ∨ p.route = .fired ∨ p.route = .captured))) ∧
  (∀ (l : LaneId) (before : Lane) (s : State),
    (∀ (L : Lane) (g : Gate), L.binState g =
      if L.bins[g.val].out then .out
      else if L.bins[g.val].capacity ≤ L.bins[g.val].confirmed + (L.outstanding g).length then .full
      else if L.bins[g.val].nearFull ≤ L.bins[g.val].confirmed + (L.outstanding g).length then .nearFull
      else .opened) ∧
    s.deriveBins l before = ((allGates.filter (fun g =>
      (s.lane l).binState g ≠ before.binState g ∧ (s.lane l).binState g ≠ .opened)).map (fun g =>
        .binState l g ((s.lane l).binState g) (s.lane l).bins[g.val].confirmed
          ((s.lane l).outstanding g).length)).foldl State.raise s) ∧
  ∀ (tag lane n capacity near : Nat) (l : LaneId) (g : Gate) (s : State), s.TakesAtOnce →
    laneOf lane = some l →
    (n = 0 ∨ 12 < n ∨ capacity < 1 ∨ 9999 < capacity ∨ near < 1 ∨ capacity < near →
      exec (.binLimits tag lane n capacity near) s =
        .next (s.answer tag 0x68 .badValue []).transmit) ∧
    (1 ≤ capacity → capacity ≤ 9999 → 1 ≤ near → near ≤ capacity → n = g.val + 1 →
      ∀ L, L = { s.lane l with bins := (s.lane l).bins.set g.val ({ (s.lane l).bins[g.val] with
        capacity := capacity, nearFull := near } : Bin) } →
      exec (.binLimits tag lane n capacity near) s = .next ((((s.setLane l L).deriveBins l
        (s.lane l)).answer tag 0x68 .done (u8 (L.binState g).code)).transmit)) ∧
    exec (.binSwap tag lane 0) s = .next (((s.setLane l { s.lane l with runoutConfirmed := 0 }).answer
      tag 0x69 .done (u16 (s.lane l).runoutConfirmed)).transmit) ∧
    (12 < n → exec (.binSwap tag lane n) s = .next (s.answer tag 0x69 .badValue []).transmit) ∧
    (n = g.val + 1 → exec (.binSwap tag lane n) s = .next ((((s.setLane l { s.lane l with
      bins := (s.lane l).bins.set g.val ({ (s.lane l).bins[g.val] with confirmed := 0 } : Bin) }).deriveBins l
        (s.lane l)).answer tag 0x69 .done (u16 (s.lane l).bins[g.val].confirmed)).transmit)) ∧
    (n = 0 ∨ 12 < n →
      exec (.gateRestore tag lane n) s = .next (s.answer tag 0x6B .badValue []).transmit) ∧
    (n = g.val + 1 → ∀ L, L = { s.lane l with
        bins := (s.lane l).bins.set g.val ({ (s.lane l).bins[g.val] with
          out := false, miss := 0 } : Bin) } →
      exec (.gateRestore tag lane n) s = .next ((((s.setLane l L).deriveBins l (s.lane l)).answer tag
        0x6B .done (u8 (L.binState g).code)).transmit))

/-! ### Speed -/

/-- The end of a speed window: the figure is floor(delta × 16 ÷ W), at most 16,383; LOW, HIGH and
CRIT follow their limits and the hysteresis; each flag that changed raises one notice, in that
order; the latch and the alert line follow the mode; the qualification count rises in STARTING with
LOW and CRIT clear and else becomes 0; at 2 it becomes 0 and the STARTING lane enters RUNNING. The
next window begins with the length last written and no pulses. -/
def Obligations.WindowEndMeasures : Prop :=
  ∀ (l : LaneId) (s : State) (m : SpeedMonitor) (f : Nat) (low high crit rose latch : Bool) (q : Nat)
    (u : State), s.Quiet → m = (s.lane l).speed →
    f = min 16383 (m.pulses * 16 / m.window) →
    low = (if m.low then decide (f < m.lowLimit + m.hysteresis) else decide (f < m.lowLimit)) →
    high = (if m.high then decide (m.highLimit < f + m.hysteresis) else decide (m.highLimit < f)) →
    crit = (if m.crit then decide (m.critLimit < f + m.hysteresis) else decide (m.critLimit < f)) →
    rose = (!m.low && low || !m.high && high || !m.crit && crit) →
    latch = (m.latch || (decide (m.mode = .latch) && rose)) →
    q = (if (s.lane l).state = .starting ∧ low = false ∧ crit = false then m.qualification + 1
      else 0) →
    u = (s.setLane l { s.lane l with speed := { m with
      window := m.nextWindow
      pulses := 0
      figure := f
      low := low
      high := high
      crit := crit
      latch := latch
      line := (match m.mode with
        | .off => false
        | .level => low || high || crit
        | .latch => latch
        | .critOnly => crit)
      qualification := if 2 ≤ q then 0 else q } }).raiseAll
        ((if m.low = low then [] else [.speedFlag l .low low f]) ++
          (if m.high = high then [] else [.speedFlag l .high high f]) ++
          (if m.crit = crit then [] else [.speedFlag l .crit crit f])) →
    (q < 2 → exec (.windowEnd l) s = .next u.transmit) ∧
    (2 ≤ q → exec (.windowEnd l) s = .next (((u.setLane l { u.lane l with
      startTimer := false
      state := .running
      run := true }).raise (.laneState l .running .qualified)).transmit))

/-- SPEED SET: refused BAD VALUE for the first item with an unknown code or a value out of range,
then LOCKED for a CRIT LIMIT or HYSTERESIS item on a locked lane, then BAD VALUE when the limits
would not keep LOW ≤ HIGH ≤ CRIT; otherwise each item is written, its last value standing, and the
response carries the values held. The codes and ranges of the items are spelled out. ALERT CLEAR: in
LATCH mode with CRIT clear the latch is cleared and the line deasserted; with CRIT set, or in the
other modes, nothing changes; the response carries latch and line after it. (The code that BAD VALUE
names, that the last of several modes is the new one, the two-byte hysteresis, and the line's level
as 1 or 0, are the model's readings, assumption logs 25, 41 and 29.) -/
def Obligations.SpeedSetAndAlertClear : Prop :=
  (∀ x : SpeedItem, speedItemOk x = true ↔
    x.code = 1 ∧ (x.value = 4 ∨ x.value = 8 ∨ x.value = 16 ∨ x.value = 32) ∨
    (x.code = 2 ∨ x.code = 3 ∨ x.code = 4) ∧ x.value ≤ 16383 ∨
    x.code = 5 ∧ x.value ≤ 255 ∨ x.code = 6 ∧ 1 ≤ x.value ∧ x.value ≤ 4) ∧
  (∀ (xs : List SpeedItem) (code held : Nat),
    ((∀ x ∈ xs, x.code ≠ code) → lastValue xs code held = held) ∧
    (∀ before v after, xs = before ++ ⟨code, v⟩ :: after → (∀ x ∈ after, x.code ≠ code) →
      lastValue xs code held = v)) ∧
  (∀ (xs : List SpeedItem) (held : AlertMode),
    ((∀ x ∈ xs, x.code ≠ 6) → lastMode xs held = held) ∧
    (∀ before mode after, xs = before ++ ⟨6, AlertMode.code mode⟩ :: after →
      (∀ x ∈ after, x.code ≠ 6) → lastMode xs held = mode)) ∧
  (∀ (tag lane : Nat) (xs : List SpeedItem) (l : LaneId) (s : State) (low high crit : Nat),
    s.TakesAtOnce → laneOf lane = some l →
    low = lastValue xs 2 (s.lane l).speed.lowLimit → high = lastValue xs 3 (s.lane l).speed.highLimit →
    crit = lastValue xs 4 (s.lane l).speed.critLimit →
    (∀ before x after, xs = before ++ x :: after → (∀ y ∈ before, speedItemOk y = true) →
      speedItemOk x = false →
      exec (.speedSet tag lane xs) s = .next (s.answer tag 0x70 .badValue (u8 x.code)).transmit) ∧
    ((∀ x ∈ xs, speedItemOk x = true) →
      ((s.lane l).lock = true → (∃ x ∈ xs, x.code = 4 ∨ x.code = 5) →
        exec (.speedSet tag lane xs) s = .next (s.answer tag 0x70 .locked []).transmit) ∧
      ((s.lane l).lock = false ∨ (∀ x ∈ xs, x.code ≠ 4 ∧ x.code ≠ 5) →
        (high < low →
          exec (.speedSet tag lane xs) s = .next (s.answer tag 0x70 .badValue (u8 3)).transmit) ∧
        (low ≤ high → crit < high →
          exec (.speedSet tag lane xs) s = .next (s.answer tag 0x70 .badValue (u8 4)).transmit) ∧
        (low ≤ high → high ≤ crit → ∃ m : SpeedMonitor,
          exec (.speedSet tag lane xs) s = .next (((s.setLane l { s.lane l with speed := m }).answer tag
            0x70 .done (u16 m.nextWindow ++ u16 m.lowLimit ++ u16 m.highLimit ++ u16 m.critLimit ++
              u16 m.hysteresis ++ u8 m.mode.code)).transmit) ∧
          m.lowLimit = low ∧ m.highLimit = high ∧ m.critLimit = crit ∧
          m.nextWindow = lastValue xs 1 (s.lane l).speed.nextWindow ∧
          m.hysteresis = lastValue xs 5 (s.lane l).speed.hysteresis ∧
          m.mode = lastMode xs (s.lane l).speed.mode ∧
          m.latch = (if m.mode = (s.lane l).speed.mode then (s.lane l).speed.latch
            else decide (m.mode = .latch) && (m.low || m.high || m.crit)) ∧
          m.line = (match m.mode with
            | .off => false
            | .level => m.low || m.high || m.crit
            | .latch => m.latch
            | .critOnly => m.crit) ∧
          { m with
            nextWindow := (s.lane l).speed.nextWindow
            lowLimit := (s.lane l).speed.lowLimit
            highLimit := (s.lane l).speed.highLimit
            critLimit := (s.lane l).speed.critLimit
            hysteresis := (s.lane l).speed.hysteresis
            mode := (s.lane l).speed.mode
            latch := (s.lane l).speed.latch
            line := (s.lane l).speed.line } = (s.lane l).speed)))) ∧
  (∀ (tag lane : Nat) (l : LaneId) (s : State), s.TakesAtOnce → laneOf lane = some l →
    ((s.lane l).speed.mode = .latch → (s.lane l).speed.crit = false →
      exec (.alertClear tag lane) s = .next (((s.setLane l { s.lane l with
        speed := { (s.lane l).speed with latch := false, line := false } }).answer tag 0x71 .done
          (bit false ++ bit false)).transmit)) ∧
    ((s.lane l).speed.mode ≠ .latch ∨ (s.lane l).speed.crit = true →
      exec (.alertClear tag lane) s = .next (s.answer tag 0x71 .done
        (bit (s.lane l).speed.latch ++ bit (s.lane l).speed.line)).transmit))

/-! ### The sort link -/

/-- The receiver by its state, byte by byte: HUNT waits for A5h, SYNC for 5Ah, LENGTH gathers two
bytes and drops a length of 0 or above 300, BODY gathers as many bytes, CHECK gathers two and
completes the frame. LENGTH ERROR and FRAME RECEIVED name the byte that does so, GAP ABANDON drops
what a receiver outside HUNT has gathered, and each drop is counted. In every other receiver state
LENGTH ERROR changes nothing. FRAME SENT frees the transmitter. (That LENGTH_ERROR and
FRAME_RECEIVED carry the byte, and change nothing where it completes nothing, is the model's choice,
assumption log 8.) -/
def Obligations.ReceiverByState : Prop :=
  ∀ (b : Byte) (s : State) (mv : Receiver → State), s.resetLine = false →
    (∀ r, mv r = { s with link := { s.link with rx := r } }) →
    (s.link.rx = .hunt →
      exec (.byteReceived b) s = .next (if b = 0xA5#8 then mv .sync else s) ∧
      exec .gapAbandon s = .next s) ∧
    (s.link.rx ≠ .hunt → exec .gapAbandon s = .next ((mv .hunt).countDevice (fun c => { c with
      gapAbandons := c.gapAbandons + 1 }))) ∧
    (s.link.rx = .sync → exec (.byteReceived b) s =
      .next (if b = 0x5A#8 then mv (.length none) else if b = 0xA5#8 then s else mv .hunt)) ∧
    (s.link.rx = .length none → exec (.byteReceived b) s = .next (mv (.length (some b)))) ∧
    (∀ b0 n, s.link.rx = .length (some b0) → n = 256 * b0.toNat + b.toNat →
      (1 ≤ n → n ≤ 300 → exec (.byteReceived b) s = .next (mv (.body n [])) ∧
        exec (.lengthError b) s = .next s) ∧
      (n = 0 ∨ 300 < n → ∀ u, u = (mv .hunt).countDevice (fun c => { c with
          lengthErrors := c.lengthErrors + 1 }) →
        exec (.byteReceived b) s = .next u ∧ exec (.lengthError b) s = .next u)) ∧
    ((∀ b0, s.link.rx ≠ .length (some b0)) → exec (.lengthError b) s = .next s) ∧
    (∀ n got, s.link.rx = .body n got →
      (got.length + 1 < n → exec (.byteReceived b) s = .next (mv (.body n (got ++ [b])))) ∧
      (n ≤ got.length + 1 → exec (.byteReceived b) s = .next (mv (.check n (got ++ [b]) none)))) ∧
    (∀ n got, s.link.rx = .check n got none →
      exec (.byteReceived b) s = .next (mv (.check n got (some b)))) ∧
    (∀ n got c0, s.link.rx = .check n got (some c0) →
      exec (.frameReceived b) s = .next (s.frameComplete got c0 b) ∧
      exec (.byteReceived b) s = .next (s.frameComplete got c0 b)) ∧
    ((∀ n got c0, s.link.rx ≠ .check n got (some c0)) → exec (.frameReceived b) s = .next s) ∧
    (s.link.buffer = [] → s.link.tx.isSome = true →
      exec .frameSent s = .next (({ s with link := { s.link with tx := none } } : State).transmit)) ∧
    (s.link.tx = none → exec .frameSent s = .next s)

/-- A frame complete: a CRC that differs drops and counts it; a SCAN REPORT is handed to the lane
its lane byte names, or counted as one with no lane; a REQUEST is parsed and submitted to the
request buffer; a body too short for its kind, and a frame of any other kind, is dropped and
counted. The receiver is back in HUNT. (That a short REQUEST raises the short frame counter alone is
the model's reading, assumption log 43.) -/
def Obligations.FramesDispatchedByKind : Prop :=
  ∀ (kind c0 c1 : Byte) (body : Bytes) (s u : State),
    u = { s with link := { s.link with rx := .hunt } } →
    (crc16 (u16 (body.length + 1) ++ kind :: body) ≠ c0 ++ c1 →
      s.frameComplete (kind :: body) c0 c1 = u.countDevice (fun c => { c with
        crcErrors := c.crcErrors + 1 })) ∧
    (crc16 (u16 (body.length + 1) ++ kind :: body) = c0 ++ c1 →
      (kind = 0x11#8 → body.length < 6 → s.frameComplete (kind :: body) c0 c1 =
        u.countDevice (fun c => { c with shortFrames := c.shortFrames + 1 })) ∧
      (∀ lane head p2 p1 p0 result chars, kind = 0x11#8 →
        body = lane :: head :: p2 :: p1 :: p0 :: result :: chars →
        (∀ l, laneOf lane.toNat = some l → s.frameComplete (kind :: body) c0 c1 =
          u.modLane l (fun L => L.scanReport head.toNat (p2 ++ p1 ++ p0) result.toNat chars)) ∧
        (2 ≤ lane.toNat → s.frameComplete (kind :: body) c0 c1 = u.countDevice (fun c => { c with
          noLaneReports := c.noLaneReports + 1 }))) ∧
      (kind = 0x21#8 → body.length < 3 → s.frameComplete (kind :: body) c0 c1 =
        u.countDevice (fun c => { c with shortFrames := c.shortFrames + 1 })) ∧
      (∀ t1 t0 code params, kind = 0x21#8 → body = t1 :: t0 :: code :: params →
        s.frameComplete (kind :: body) c0 c1 =
          u.submit (256 * t1.toNat + t0.toNat) (parseRequest code.toNat params)) ∧
      (kind ≠ 0x11#8 → kind ≠ 0x21#8 → s.frameComplete (kind :: body) c0 c1 =
        u.countDevice (fun c => { c with unknownKinds := c.unknownKinds + 1 })))

/-- DEVICE STATUS reports the device and clears the cold start flag after reading it; COUNTERS READ
reports every counter and with clear 1 sets each to 0, a clear above 1 being refused BAD VALUE;
LOOKUP STATUS reports the queue, the arbiter and the engine and changes nothing. Their results are
spelled out field by field. (Some widths and groups, and that DEVICE STATUS does not count its own
response, are the model's reading, assumption logs 29, 30, 31, 40 and 44.) -/
def Obligations.DeviceReports : Prop :=
  (∀ (tag clear : Nat) (s : State), s.TakesAtOnce →
    exec (.deviceStatus tag) s = .next ((({ s with link := { s.link with
      coldStart := false } } : State).answer tag 0x01 .done s.link.statusFields).transmit) ∧
    exec (.countersRead tag 0) s = .next ((s.answer tag 0x02 .done s.counterFields).transmit) ∧
    exec (.countersRead tag 1) s = .next ((({ s with
      lane0 := { s.lane0 with counters := ⟨0, 0, 0, 0, 0, 0, 0, 0, 0, 0⟩ }
      lane1 := { s.lane1 with counters := ⟨0, 0, 0, 0, 0, 0, 0, 0, 0, 0⟩ }
      link := { s.link with counters := ⟨0, 0, 0, 0, 0, 0, 0, 0, 0, 0⟩ } } : State).answer tag 0x02 .done
        s.counterFields).transmit) ∧
    (2 ≤ clear →
      exec (.countersRead tag clear) s = .next (s.answer tag 0x02 .badValue []).transmit) ∧
    exec (.lookupStatus tag) s = .next (s.answer tag 0x52 .done
      (u8 s.lookup.priority0 ++ u8 s.lookup.priority1 ++ u8 s.lookup.ageLimit ++
        u16 s.lookup.passCount ++ u16 s.lookup.nextArrival.toNat ++ u16 s.lookup.queue.length ++
        s.lookup.queue.flatMap LookupRequest.fields ++ engineFields s.lookup.engine ++
        u16 s.lane0.counters.overloads.toNat ++ u16 s.lane1.counters.overloads.toNat ++
        u16 s.link.counters.discardedResults.toNat)).transmit) ∧
  (∀ k : Link, k.statusFields = u16 0x2412 ++ u8 1 ++ u16 2 ++ (u16 64 ++ u16 12 ++ u16 4 ++ u16 8 ++
    u16 1024 ++ u16 64 ++ u16 256 ++ u24 262144 ++ u16 8 ++ u16 4 ++ u16 16 ++ u16 16 ++ u16 64 ++
    u16 300) ++ u16 k.buffer.length ++ u16 k.responses.length ++ u16 k.reserved ++ u16 k.notices.length ++
    u16 k.dispositions.length ++ u16 k.lostNotices ++ bit k.coldStart) ∧
  (∀ s : State, s.counterFields =
    [s.link.counters.crcErrors, s.link.counters.lengthErrors, s.link.counters.gapAbandons,
      s.link.counters.unknownKinds, s.link.counters.shortFrames, s.link.counters.bufferOverflows,
      s.link.counters.noticesLost, s.link.counters.dispositionDiscards, s.link.counters.noLaneReports,
      s.link.counters.discardedResults].flatMap (fun x => u16 x.toNat) ++
    [s.lane0.counters, s.lane1.counters].flatMap (fun c => [c.entriesStopped, c.flutters, c.discarded,
      c.garbled, c.replaced, c.late, c.orphan, c.overloads, c.binStrays, c.runoutStrays].flatMap
        (fun x => u16 x.toNat))) ∧
  (∀ r : LookupRequest, r.fields = (match r.requester with
    | .piece .lane0 n => u8 1 ++ u8 0 ++ u32 n
    | .piece .lane1 n => u8 2 ++ u8 1 ++ u32 n
    | .query t => u8 3 ++ u16 t) ++ u8 (slotNum r.slot) ++ u16 r.arrival.toNat) ∧
  engineFields none = u8 1 ∧
  (∀ j, engineFields (some j) = u8 2 ++ j.request.fields ++ u8 j.stage.code)

/-! ### Invariants every step keeps -/

/-- Every step keeps both lanes sound: run line, timers, track, gate outputs, hold sets, alert line
and latch stand as the lane's state and mode say. -/
def Obligations.LanesStaySound : Prop :=
  ∀ s t : State, s.LanesSound → step s = .next t → t.LanesSound

/-- Every step keeps the laws of the plan store: counts within capacities, pointers within counts,
at most one slot ACTIVE, a slot RETIRING only while the other is ACTIVE, no references in EMPTY,
LOADING and CHECKING, and the checker busy with the slot that is CHECKING. -/
def Obligations.PlanLawsKept : Prop :=
  ∀ s t : State, s.PlanLaws → step s = .next t → t.PlanLaws

/-- Every step keeps each queue within its capacity, and the reserved response places equal to the
QUERYs in hand. -/
def Obligations.QueuesStayBounded : Prop :=
  ∀ s t : State, s.QueuesBounded → step s = .next t → t.QueuesBounded

/-- Every step keeps the hot list at 256 entries at most, in strictly ascending account order, every
account and class in range, and the directory port sound. -/
def Obligations.HotListAndPortStaySound : Prop :=
  (∀ s t : State, s.HotOrdered → step s = .next t → t.HotOrdered) ∧
  (∀ s t : State, s.PortSound → step s = .next t → t.PortSound)

/-- The state after a cold reset meets every invariant. (The levels of the inputs in it are the
model's choice, assumption log 3.) -/
def Obligations.ResetMeetsTheInvariants : Prop :=
  State.reset.LanesSound ∧ State.reset.PlanLaws ∧ State.reset.QueuesBounded ∧ State.reset.HotOrdered ∧
    State.reset.PortSound
end

