-- ==== Sys2Proof/Laws/Encoding.lean ====
section
/-! SUPPORT. What the byte layouts do, said once: a number written into a field of `n` bytes has length
`n` and reads back as itself (R197, R198), absent fields are all ones, and a list's items read back
from behind their count byte. -/

namespace Sys2Proof.Machine

/-! ### Numbers in fields -/

@[simp] theorem be_length (n v : Nat) : (be n v).length = n := by
  induction n with
  | zero => rfl
  | succ n ih => simp [be, ih]

@[simp] theorem u8_length (v : Nat) : (u8 v).length = 1 := be_length 1 v
@[simp] theorem u16_length (v : Nat) : (u16 v).length = 2 := be_length 2 v
@[simp] theorem u24_length (v : Nat) : (u24 v).length = 3 := be_length 3 v
@[simp] theorem u32_length (v : Nat) : (u32 v).length = 4 := be_length 4 v
@[simp] theorem u40_length (v : Nat) : (u40 v).length = 5 := be_length 5 v

theorem num_foldl (bs : Bytes) (a : Nat) :
    bs.foldl (fun n b => 256 * n + b.toNat) a = a * 256 ^ bs.length + num bs := by
  induction bs generalizing a with
  | nil => simp [num]
  | cons b bs ih =>
    simp only [List.foldl_cons, num, List.length_cons, pow_succ]
    rw [ih, ih (256 * 0 + b.toNat)]; ring

theorem num_cons (b : Byte) (bs : Bytes) : num (b :: bs) = b.toNat * 256 ^ bs.length + num bs := by
  simpa [num] using num_foldl bs (256 * 0 + b.toNat)

/-- A number written into `n` bytes reads back mod 256 ^ n. -/
theorem num_be (n v : Nat) : num (be n v) = v % 256 ^ n := by
  induction n with
  | zero => simp [be, num, Nat.mod_one]
  | succ n ih =>
    rw [be, num_cons, be_length, ih]
    simp only [BitVec.toNat_ofNat, show (2 : Nat) ^ 8 = 256 from rfl]
    rw [pow_succ, Nat.mod_mul, Nat.mul_comm, Nat.add_comm]

/-! ### Fields of a run of bytes -/

/-- A field behind `k` bytes reads back the number written into it. -/
theorem fieldAt_be (before : Bytes) (k n v : Nat) (rest : Bytes) (hk : before.length = k)
    (h : v < 256 ^ n) : fieldAt (before ++ (be n v ++ rest)) k n = v := by
  subst hk
  simp [fieldAt, num_be, Nat.mod_eq_of_lt h]

/-- The first field reads back the number written into it. -/
theorem fieldAt_zero (n v : Nat) (rest : Bytes) (h : v < 256 ^ n) : fieldAt (be n v ++ rest) 0 n = v := by
  simpa using fieldAt_be [] 0 n v rest rfl h

/-! ### Lists of items -/

theorem length_flatMap_const {α : Type} (w : Nat) (enc : α → Bytes) (xs : List α)
    (hl : ∀ x ∈ xs, (enc x).length = w) : (xs.flatMap enc).length = w * xs.length := by
  induction xs with
  | nil => rfl
  | cons x xs ih => simp [hl x (by simp), ih (fun y hy => hl y (by simp [hy]))]; ring

/-- Items of one width, joined, are cut apart again. -/
theorem chunks_flatMap {α : Type} (w : Nat) (enc : α → Bytes) (xs : List α)
    (hl : ∀ x ∈ xs, (enc x).length = w) : chunks w xs.length (xs.flatMap enc) = xs.map enc := by
  induction xs with
  | nil => rfl
  | cons x xs ih =>
    have h1 := hl x (by simp)
    simp only [List.length_cons, chunks, List.flatMap_cons, List.map_cons]
    rw [List.take_append_of_le_length (by omega), List.take_of_length_le (by omega),
      List.drop_append_of_le_length (by omega), List.drop_of_length_le (by omega), List.nil_append,
      ih (fun y hy => hl y (by simp [hy]))]

/-- Behind `k` fixed bytes, a count byte and as many items of width `w` have the length R198 requires,
and read back as the items. -/
theorem listItems_encoded {α : Type} (fixed : Bytes) (k w : Nat) (enc : α → Bytes) (dec : Bytes → α)
    (xs : List α) (hk : fixed.length = k) (hn : xs.length < 256) (hl : ∀ x ∈ xs, (enc x).length = w)
    (hd : ∀ x ∈ xs, dec (enc x) = x) :
    (listItems (fixed ++ (u8 xs.length ++ xs.flatMap enc)) k w).map dec = xs ∧
      lengthFits (k, some w) (fixed ++ (u8 xs.length ++ xs.flatMap enc)) = true := by
  have hf : fieldAt (fixed ++ (u8 xs.length ++ xs.flatMap enc)) k 1 = xs.length :=
    fieldAt_be fixed k 1 xs.length _ hk (by simpa using hn)
  constructor
  · rw [listItems, hf]
    have : (fixed ++ (u8 xs.length ++ xs.flatMap enc)).drop (k + 1) = xs.flatMap enc := by
      subst hk
      rw [← List.append_assoc, List.drop_left' (by simp)]
    rw [this, chunks_flatMap w enc xs hl, List.map_map]
    conv_rhs => rw [← List.map_id xs]
    exact List.map_congr_left hd
  · simp only [lengthFits]
    rw [hf]
    have := length_flatMap_const w enc xs hl
    simp [this, hk]; omega

end Sys2Proof.Machine
end

