-- ==== Sys2Proof/Laws/State.lean ====
section
/-! SUPPORT. One lemma for each component and each named update of the state: what the update writes,
and that it leaves the rest alone. Later proofs cite these and unfold no record update. -/

namespace Sys2Proof.Machine

/-! ### Lanes and slots by number -/

@[simp] theorem State.lane_lane0 (s : State) : s.lane .lane0 = s.lane0 := rfl
@[simp] theorem State.lane_lane1 (s : State) : s.lane .lane1 = s.lane1 := rfl
@[simp] theorem State.slot_slot0 (s : State) : s.slot .slot0 = s.slot0 := rfl
@[simp] theorem State.slot_slot1 (s : State) : s.slot .slot1 = s.slot1 := rfl

@[simp] theorem State.lane_setLane (s : State) (l l' : LaneId) (x : Lane) :
    (s.setLane l x).lane l' = if l' = l then x else s.lane l' := by cases l <;> cases l' <;> rfl
@[simp] theorem State.slot_setSlot (s : State) (k k' : SlotId) (x : PlanSlot) :
    (s.setSlot k x).slot k' = if k' = k then x else s.slot k' := by cases k <;> cases k' <;> rfl
@[simp] theorem State.lane_modLane (s : State) (l l' : LaneId) (f : Lane → Lane) :
    (s.modLane l f).lane l' = if l' = l then f (s.lane l) else s.lane l' := by
  cases l <;> cases l' <;> rfl
@[simp] theorem State.slot_modSlot (s : State) (k k' : SlotId) (f : PlanSlot → PlanSlot) :
    (s.modSlot k f).slot k' = if k' = k then f (s.slot k) else s.slot k' := by
  cases k <;> cases k' <;> rfl
@[simp] theorem State.slot_setLane (s : State) (l : LaneId) (x : Lane) (k : SlotId) :
    (s.setLane l x).slot k = s.slot k := by cases l <;> rfl
@[simp] theorem State.slot_modLane (s : State) (l : LaneId) (f : Lane → Lane) (k : SlotId) :
    (s.modLane l f).slot k = s.slot k := by cases l <;> rfl
@[simp] theorem State.lane_setSlot (s : State) (k : SlotId) (x : PlanSlot) (l : LaneId) :
    (s.setSlot k x).lane l = s.lane l := by cases k <;> rfl
@[simp] theorem State.lane_modSlot (s : State) (k : SlotId) (f : PlanSlot → PlanSlot) (l : LaneId) :
    (s.modSlot k f).lane l = s.lane l := by cases k <;> rfl

/-! ### The rest of the state under lane and slot updates -/

@[simp] theorem State.slot0_setLane (s : State) (l : LaneId) (x : Lane) :
    (s.setLane l x).slot0 = s.slot0 := by cases l <;> rfl
@[simp] theorem State.slot1_setLane (s : State) (l : LaneId) (x : Lane) :
    (s.setLane l x).slot1 = s.slot1 := by cases l <;> rfl
@[simp] theorem State.checker_setLane (s : State) (l : LaneId) (x : Lane) :
    (s.setLane l x).checker = s.checker := by cases l <;> rfl
@[simp] theorem State.hot_setLane (s : State) (l : LaneId) (x : Lane) :
    (s.setLane l x).hot = s.hot := by cases l <;> rfl
@[simp] theorem State.dir_setLane (s : State) (l : LaneId) (x : Lane) :
    (s.setLane l x).dir = s.dir := by cases l <;> rfl
@[simp] theorem State.lookup_setLane (s : State) (l : LaneId) (x : Lane) :
    (s.setLane l x).lookup = s.lookup := by cases l <;> rfl
@[simp] theorem State.link_setLane (s : State) (l : LaneId) (x : Lane) :
    (s.setLane l x).link = s.link := by cases l <;> rfl
@[simp] theorem State.resetLine_setLane (s : State) (l : LaneId) (x : Lane) :
    (s.setLane l x).resetLine = s.resetLine := by cases l <;> rfl
@[simp] theorem State.pending_setLane (s : State) (l : LaneId) (x : Lane) :
    (s.setLane l x).pending = s.pending := by cases l <;> rfl
@[simp] theorem State.slot0_modLane (s : State) (l : LaneId) (f : Lane → Lane) :
    (s.modLane l f).slot0 = s.slot0 := by cases l <;> rfl
@[simp] theorem State.slot1_modLane (s : State) (l : LaneId) (f : Lane → Lane) :
    (s.modLane l f).slot1 = s.slot1 := by cases l <;> rfl
@[simp] theorem State.checker_modLane (s : State) (l : LaneId) (f : Lane → Lane) :
    (s.modLane l f).checker = s.checker := by cases l <;> rfl
@[simp] theorem State.hot_modLane (s : State) (l : LaneId) (f : Lane → Lane) :
    (s.modLane l f).hot = s.hot := by cases l <;> rfl
@[simp] theorem State.dir_modLane (s : State) (l : LaneId) (f : Lane → Lane) :
    (s.modLane l f).dir = s.dir := by cases l <;> rfl
@[simp] theorem State.lookup_modLane (s : State) (l : LaneId) (f : Lane → Lane) :
    (s.modLane l f).lookup = s.lookup := by cases l <;> rfl
@[simp] theorem State.link_modLane (s : State) (l : LaneId) (f : Lane → Lane) :
    (s.modLane l f).link = s.link := by cases l <;> rfl
@[simp] theorem State.resetLine_modLane (s : State) (l : LaneId) (f : Lane → Lane) :
    (s.modLane l f).resetLine = s.resetLine := by cases l <;> rfl
@[simp] theorem State.pending_modLane (s : State) (l : LaneId) (f : Lane → Lane) :
    (s.modLane l f).pending = s.pending := by cases l <;> rfl
@[simp] theorem State.lane0_setSlot (s : State) (k : SlotId) (x : PlanSlot) :
    (s.setSlot k x).lane0 = s.lane0 := by cases k <;> rfl
@[simp] theorem State.lane1_setSlot (s : State) (k : SlotId) (x : PlanSlot) :
    (s.setSlot k x).lane1 = s.lane1 := by cases k <;> rfl
@[simp] theorem State.checker_setSlot (s : State) (k : SlotId) (x : PlanSlot) :
    (s.setSlot k x).checker = s.checker := by cases k <;> rfl
@[simp] theorem State.hot_setSlot (s : State) (k : SlotId) (x : PlanSlot) :
    (s.setSlot k x).hot = s.hot := by cases k <;> rfl
@[simp] theorem State.dir_setSlot (s : State) (k : SlotId) (x : PlanSlot) :
    (s.setSlot k x).dir = s.dir := by cases k <;> rfl
@[simp] theorem State.lookup_setSlot (s : State) (k : SlotId) (x : PlanSlot) :
    (s.setSlot k x).lookup = s.lookup := by cases k <;> rfl
@[simp] theorem State.link_setSlot (s : State) (k : SlotId) (x : PlanSlot) :
    (s.setSlot k x).link = s.link := by cases k <;> rfl
@[simp] theorem State.resetLine_setSlot (s : State) (k : SlotId) (x : PlanSlot) :
    (s.setSlot k x).resetLine = s.resetLine := by cases k <;> rfl
@[simp] theorem State.pending_setSlot (s : State) (k : SlotId) (x : PlanSlot) :
    (s.setSlot k x).pending = s.pending := by cases k <;> rfl
@[simp] theorem State.lane0_modSlot (s : State) (k : SlotId) (f : PlanSlot → PlanSlot) :
    (s.modSlot k f).lane0 = s.lane0 := by cases k <;> rfl
@[simp] theorem State.lane1_modSlot (s : State) (k : SlotId) (f : PlanSlot → PlanSlot) :
    (s.modSlot k f).lane1 = s.lane1 := by cases k <;> rfl
@[simp] theorem State.checker_modSlot (s : State) (k : SlotId) (f : PlanSlot → PlanSlot) :
    (s.modSlot k f).checker = s.checker := by cases k <;> rfl
@[simp] theorem State.hot_modSlot (s : State) (k : SlotId) (f : PlanSlot → PlanSlot) :
    (s.modSlot k f).hot = s.hot := by cases k <;> rfl
@[simp] theorem State.dir_modSlot (s : State) (k : SlotId) (f : PlanSlot → PlanSlot) :
    (s.modSlot k f).dir = s.dir := by cases k <;> rfl
@[simp] theorem State.lookup_modSlot (s : State) (k : SlotId) (f : PlanSlot → PlanSlot) :
    (s.modSlot k f).lookup = s.lookup := by cases k <;> rfl
@[simp] theorem State.link_modSlot (s : State) (k : SlotId) (f : PlanSlot → PlanSlot) :
    (s.modSlot k f).link = s.link := by cases k <;> rfl
@[simp] theorem State.resetLine_modSlot (s : State) (k : SlotId) (f : PlanSlot → PlanSlot) :
    (s.modSlot k f).resetLine = s.resetLine := by cases k <;> rfl
@[simp] theorem State.pending_modSlot (s : State) (k : SlotId) (f : PlanSlot → PlanSlot) :
    (s.modSlot k f).pending = s.pending := by cases k <;> rfl

/-! ### Updates of the link unit leave every other component alone -/

@[simp] theorem State.lane0_raise (s : State) (n : Notice) :
    (s.raise n).lane0 = s.lane0 := rfl
@[simp] theorem State.lane1_raise (s : State) (n : Notice) :
    (s.raise n).lane1 = s.lane1 := rfl
@[simp] theorem State.slot0_raise (s : State) (n : Notice) :
    (s.raise n).slot0 = s.slot0 := rfl
@[simp] theorem State.slot1_raise (s : State) (n : Notice) :
    (s.raise n).slot1 = s.slot1 := rfl
@[simp] theorem State.checker_raise (s : State) (n : Notice) :
    (s.raise n).checker = s.checker := rfl
@[simp] theorem State.hot_raise (s : State) (n : Notice) :
    (s.raise n).hot = s.hot := rfl
@[simp] theorem State.dir_raise (s : State) (n : Notice) :
    (s.raise n).dir = s.dir := rfl
@[simp] theorem State.lookup_raise (s : State) (n : Notice) :
    (s.raise n).lookup = s.lookup := rfl
@[simp] theorem State.resetLine_raise (s : State) (n : Notice) :
    (s.raise n).resetLine = s.resetLine := rfl
@[simp] theorem State.pending_raise (s : State) (n : Notice) :
    (s.raise n).pending = s.pending := rfl
@[simp] theorem State.lane_raise (s : State) (n : Notice) (l : LaneId) :
    (s.raise n).lane l = s.lane l := by cases l <;> rfl
@[simp] theorem State.slot_raise (s : State) (n : Notice) (k : SlotId) :
    (s.raise n).slot k = s.slot k := by cases k <;> rfl
@[simp] theorem State.lane0_offer (s : State) (d : Disposition) :
    (s.offer d).lane0 = s.lane0 := rfl
@[simp] theorem State.lane1_offer (s : State) (d : Disposition) :
    (s.offer d).lane1 = s.lane1 := rfl
@[simp] theorem State.slot0_offer (s : State) (d : Disposition) :
    (s.offer d).slot0 = s.slot0 := rfl
@[simp] theorem State.slot1_offer (s : State) (d : Disposition) :
    (s.offer d).slot1 = s.slot1 := rfl
@[simp] theorem State.checker_offer (s : State) (d : Disposition) :
    (s.offer d).checker = s.checker := rfl
@[simp] theorem State.hot_offer (s : State) (d : Disposition) :
    (s.offer d).hot = s.hot := rfl
@[simp] theorem State.dir_offer (s : State) (d : Disposition) :
    (s.offer d).dir = s.dir := rfl
@[simp] theorem State.lookup_offer (s : State) (d : Disposition) :
    (s.offer d).lookup = s.lookup := rfl
@[simp] theorem State.resetLine_offer (s : State) (d : Disposition) :
    (s.offer d).resetLine = s.resetLine := rfl
@[simp] theorem State.pending_offer (s : State) (d : Disposition) :
    (s.offer d).pending = s.pending := rfl
@[simp] theorem State.lane_offer (s : State) (d : Disposition) (l : LaneId) :
    (s.offer d).lane l = s.lane l := by cases l <;> rfl
@[simp] theorem State.slot_offer (s : State) (d : Disposition) (k : SlotId) :
    (s.offer d).slot k = s.slot k := by cases k <;> rfl
@[simp] theorem State.lane0_answer (s : State) (tag code : Nat) (st : Status) (r : Bytes) :
    (s.answer tag code st r).lane0 = s.lane0 := rfl
@[simp] theorem State.lane1_answer (s : State) (tag code : Nat) (st : Status) (r : Bytes) :
    (s.answer tag code st r).lane1 = s.lane1 := rfl
@[simp] theorem State.slot0_answer (s : State) (tag code : Nat) (st : Status) (r : Bytes) :
    (s.answer tag code st r).slot0 = s.slot0 := rfl
@[simp] theorem State.slot1_answer (s : State) (tag code : Nat) (st : Status) (r : Bytes) :
    (s.answer tag code st r).slot1 = s.slot1 := rfl
@[simp] theorem State.checker_answer (s : State) (tag code : Nat) (st : Status) (r : Bytes) :
    (s.answer tag code st r).checker = s.checker := rfl
@[simp] theorem State.hot_answer (s : State) (tag code : Nat) (st : Status) (r : Bytes) :
    (s.answer tag code st r).hot = s.hot := rfl
@[simp] theorem State.dir_answer (s : State) (tag code : Nat) (st : Status) (r : Bytes) :
    (s.answer tag code st r).dir = s.dir := rfl
@[simp] theorem State.lookup_answer (s : State) (tag code : Nat) (st : Status) (r : Bytes) :
    (s.answer tag code st r).lookup = s.lookup := rfl
@[simp] theorem State.resetLine_answer (s : State) (tag code : Nat) (st : Status) (r : Bytes) :
    (s.answer tag code st r).resetLine = s.resetLine := rfl
@[simp] theorem State.pending_answer (s : State) (tag code : Nat) (st : Status) (r : Bytes) :
    (s.answer tag code st r).pending = s.pending := rfl
@[simp] theorem State.lane_answer (s : State) (tag code : Nat) (st : Status) (r : Bytes) (l : LaneId) :
    (s.answer tag code st r).lane l = s.lane l := by cases l <;> rfl
@[simp] theorem State.slot_answer (s : State) (tag code : Nat) (st : Status) (r : Bytes) (k : SlotId) :
    (s.answer tag code st r).slot k = s.slot k := by cases k <;> rfl
@[simp] theorem State.lane0_transmit (s : State) :
    (s.transmit).lane0 = s.lane0 := rfl
@[simp] theorem State.lane1_transmit (s : State) :
    (s.transmit).lane1 = s.lane1 := rfl
@[simp] theorem State.slot0_transmit (s : State) :
    (s.transmit).slot0 = s.slot0 := rfl
@[simp] theorem State.slot1_transmit (s : State) :
    (s.transmit).slot1 = s.slot1 := rfl
@[simp] theorem State.checker_transmit (s : State) :
    (s.transmit).checker = s.checker := rfl
@[simp] theorem State.hot_transmit (s : State) :
    (s.transmit).hot = s.hot := rfl
@[simp] theorem State.dir_transmit (s : State) :
    (s.transmit).dir = s.dir := rfl
@[simp] theorem State.lookup_transmit (s : State) :
    (s.transmit).lookup = s.lookup := rfl
@[simp] theorem State.resetLine_transmit (s : State) :
    (s.transmit).resetLine = s.resetLine := rfl
@[simp] theorem State.pending_transmit (s : State) :
    (s.transmit).pending = s.pending := rfl
@[simp] theorem State.lane_transmit (s : State) (l : LaneId) :
    (s.transmit).lane l = s.lane l := by cases l <;> rfl
@[simp] theorem State.slot_transmit (s : State) (k : SlotId) :
    (s.transmit).slot k = s.slot k := by cases k <;> rfl
@[simp] theorem State.lane0_countDevice (s : State) (f : DeviceCounters → DeviceCounters) :
    (s.countDevice f).lane0 = s.lane0 := rfl
@[simp] theorem State.lane1_countDevice (s : State) (f : DeviceCounters → DeviceCounters) :
    (s.countDevice f).lane1 = s.lane1 := rfl
@[simp] theorem State.slot0_countDevice (s : State) (f : DeviceCounters → DeviceCounters) :
    (s.countDevice f).slot0 = s.slot0 := rfl
@[simp] theorem State.slot1_countDevice (s : State) (f : DeviceCounters → DeviceCounters) :
    (s.countDevice f).slot1 = s.slot1 := rfl
@[simp] theorem State.checker_countDevice (s : State) (f : DeviceCounters → DeviceCounters) :
    (s.countDevice f).checker = s.checker := rfl
@[simp] theorem State.hot_countDevice (s : State) (f : DeviceCounters → DeviceCounters) :
    (s.countDevice f).hot = s.hot := rfl
@[simp] theorem State.dir_countDevice (s : State) (f : DeviceCounters → DeviceCounters) :
    (s.countDevice f).dir = s.dir := rfl
@[simp] theorem State.lookup_countDevice (s : State) (f : DeviceCounters → DeviceCounters) :
    (s.countDevice f).lookup = s.lookup := rfl
@[simp] theorem State.resetLine_countDevice (s : State) (f : DeviceCounters → DeviceCounters) :
    (s.countDevice f).resetLine = s.resetLine := rfl
@[simp] theorem State.pending_countDevice (s : State) (f : DeviceCounters → DeviceCounters) :
    (s.countDevice f).pending = s.pending := rfl
@[simp] theorem State.lane_countDevice (s : State) (f : DeviceCounters → DeviceCounters) (l : LaneId) :
    (s.countDevice f).lane l = s.lane l := by cases l <;> rfl
@[simp] theorem State.slot_countDevice (s : State) (f : DeviceCounters → DeviceCounters) (k : SlotId) :
    (s.countDevice f).slot k = s.slot k := by cases k <;> rfl
@[simp] theorem State.lane0_setReceiver (s : State) (r : Receiver) :
    (s.setReceiver r).lane0 = s.lane0 := rfl
@[simp] theorem State.lane1_setReceiver (s : State) (r : Receiver) :
    (s.setReceiver r).lane1 = s.lane1 := rfl
@[simp] theorem State.slot0_setReceiver (s : State) (r : Receiver) :
    (s.setReceiver r).slot0 = s.slot0 := rfl
@[simp] theorem State.slot1_setReceiver (s : State) (r : Receiver) :
    (s.setReceiver r).slot1 = s.slot1 := rfl
@[simp] theorem State.checker_setReceiver (s : State) (r : Receiver) :
    (s.setReceiver r).checker = s.checker := rfl
@[simp] theorem State.hot_setReceiver (s : State) (r : Receiver) :
    (s.setReceiver r).hot = s.hot := rfl
@[simp] theorem State.dir_setReceiver (s : State) (r : Receiver) :
    (s.setReceiver r).dir = s.dir := rfl
@[simp] theorem State.lookup_setReceiver (s : State) (r : Receiver) :
    (s.setReceiver r).lookup = s.lookup := rfl
@[simp] theorem State.resetLine_setReceiver (s : State) (r : Receiver) :
    (s.setReceiver r).resetLine = s.resetLine := rfl
@[simp] theorem State.pending_setReceiver (s : State) (r : Receiver) :
    (s.setReceiver r).pending = s.pending := rfl
@[simp] theorem State.lane_setReceiver (s : State) (r : Receiver) (l : LaneId) :
    (s.setReceiver r).lane l = s.lane l := by cases l <;> rfl
@[simp] theorem State.slot_setReceiver (s : State) (r : Receiver) (k : SlotId) :
    (s.setReceiver r).slot k = s.slot k := by cases k <;> rfl

/-! ### What the updates of the link unit write -/

@[simp] theorem State.link_raise (s : State) (n : Notice) : (s.raise n).link = s.link.raise n := rfl
@[simp] theorem State.link_offer (s : State) (d : Disposition) : (s.offer d).link = s.link.offer d := rfl
@[simp] theorem State.link_transmit (s : State) : s.transmit.link = s.link.transmit := rfl
@[simp] theorem State.link_countDevice (s : State) (f : DeviceCounters → DeviceCounters) :
    (s.countDevice f).link = { s.link with counters := f s.link.counters } := rfl
@[simp] theorem State.link_setReceiver (s : State) (r : Receiver) :
    (s.setReceiver r).link = { s.link with rx := r } := rfl
@[simp] theorem State.link_answer (s : State) (tag code : Nat) (st : Status) (r : Bytes) :
    (s.answer tag code st r).link =
      { s.link with responses := s.link.responses ++ [⟨tag, code, st, r⟩] } := rfl

@[simp] theorem Link.rx_raise (k : Link) (n : Notice) :
    (k.raise n).rx = k.rx := by unfold Link.raise; split <;> rfl
@[simp] theorem Link.buffer_raise (k : Link) (n : Notice) :
    (k.raise n).buffer = k.buffer := by unfold Link.raise; split <;> rfl
@[simp] theorem Link.responses_raise (k : Link) (n : Notice) :
    (k.raise n).responses = k.responses := by unfold Link.raise; split <;> rfl
@[simp] theorem Link.reserved_raise (k : Link) (n : Notice) :
    (k.raise n).reserved = k.reserved := by unfold Link.raise; split <;> rfl
@[simp] theorem Link.dispositions_raise (k : Link) (n : Notice) :
    (k.raise n).dispositions = k.dispositions := by unfold Link.raise; split <;> rfl
@[simp] theorem Link.tx_raise (k : Link) (n : Notice) :
    (k.raise n).tx = k.tx := by unfold Link.raise; split <;> rfl
@[simp] theorem Link.coldStart_raise (k : Link) (n : Notice) :
    (k.raise n).coldStart = k.coldStart := by unfold Link.raise; split <;> rfl
@[simp] theorem Link.rx_offer (k : Link) (d : Disposition) :
    (k.offer d).rx = k.rx := by unfold Link.offer; split <;> rfl
@[simp] theorem Link.buffer_offer (k : Link) (d : Disposition) :
    (k.offer d).buffer = k.buffer := by unfold Link.offer; split <;> rfl
@[simp] theorem Link.responses_offer (k : Link) (d : Disposition) :
    (k.offer d).responses = k.responses := by unfold Link.offer; split <;> rfl
@[simp] theorem Link.reserved_offer (k : Link) (d : Disposition) :
    (k.offer d).reserved = k.reserved := by unfold Link.offer; split <;> rfl
@[simp] theorem Link.notices_offer (k : Link) (d : Disposition) :
    (k.offer d).notices = k.notices := by unfold Link.offer; split <;> rfl
@[simp] theorem Link.lostNotices_offer (k : Link) (d : Disposition) :
    (k.offer d).lostNotices = k.lostNotices := by unfold Link.offer; split <;> rfl
@[simp] theorem Link.tx_offer (k : Link) (d : Disposition) :
    (k.offer d).tx = k.tx := by unfold Link.offer; split <;> rfl
@[simp] theorem Link.coldStart_offer (k : Link) (d : Disposition) :
    (k.offer d).coldStart = k.coldStart := by unfold Link.offer; split <;> rfl
@[simp] theorem Link.rx_transmit (k : Link) :
    (k.transmit).rx = k.rx := by unfold Link.transmit; repeat (split <;> try rfl)
@[simp] theorem Link.buffer_transmit (k : Link) :
    (k.transmit).buffer = k.buffer := by unfold Link.transmit; repeat (split <;> try rfl)
@[simp] theorem Link.reserved_transmit (k : Link) :
    (k.transmit).reserved = k.reserved := by unfold Link.transmit; repeat (split <;> try rfl)
@[simp] theorem Link.counters_transmit (k : Link) :
    (k.transmit).counters = k.counters := by unfold Link.transmit; repeat (split <;> try rfl)
@[simp] theorem Link.coldStart_transmit (k : Link) :
    (k.transmit).coldStart = k.coldStart := by unfold Link.transmit; repeat (split <;> try rfl)

@[simp] theorem State.setLane_setLane (s : State) (l : LaneId) (x y : Lane) :
    (s.setLane l x).setLane l y = s.setLane l y := by cases l <;> rfl
@[simp] theorem State.setLane_self (s : State) (l : LaneId) : s.setLane l (s.lane l) = s := by
  cases l <;> rfl
@[simp] theorem State.setSlot_setSlot (s : State) (k : SlotId) (x y : PlanSlot) :
    (s.setSlot k x).setSlot k y = s.setSlot k y := by cases k <;> rfl
@[simp] theorem State.setSlot_self (s : State) (k : SlotId) : s.setSlot k (s.slot k) = s := by
  cases k <;> rfl

/-! ### Lanes and slots under updates of the other components -/

@[simp] theorem State.lane_with_checker (s : State) (x : Option Checker) (l : LaneId) :
    ({ s with checker := x } : State).lane l = s.lane l := by cases l <;> rfl
@[simp] theorem State.slot_with_checker (s : State) (x : Option Checker) (k : SlotId) :
    ({ s with checker := x } : State).slot k = s.slot k := by cases k <;> rfl
@[simp] theorem State.lane_with_hot (s : State) (x : List HotEntry) (l : LaneId) :
    ({ s with hot := x } : State).lane l = s.lane l := by cases l <;> rfl
@[simp] theorem State.slot_with_hot (s : State) (x : List HotEntry) (k : SlotId) :
    ({ s with hot := x } : State).slot k = s.slot k := by cases k <;> rfl
@[simp] theorem State.lane_with_dir (s : State) (x : Directory) (l : LaneId) :
    ({ s with dir := x } : State).lane l = s.lane l := by cases l <;> rfl
@[simp] theorem State.slot_with_dir (s : State) (x : Directory) (k : SlotId) :
    ({ s with dir := x } : State).slot k = s.slot k := by cases k <;> rfl
@[simp] theorem State.lane_with_lookup (s : State) (x : LookupUnit) (l : LaneId) :
    ({ s with lookup := x } : State).lane l = s.lane l := by cases l <;> rfl
@[simp] theorem State.slot_with_lookup (s : State) (x : LookupUnit) (k : SlotId) :
    ({ s with lookup := x } : State).slot k = s.slot k := by cases k <;> rfl
@[simp] theorem State.lane_with_link (s : State) (x : Link) (l : LaneId) :
    ({ s with link := x } : State).lane l = s.lane l := by cases l <;> rfl
@[simp] theorem State.slot_with_link (s : State) (x : Link) (k : SlotId) :
    ({ s with link := x } : State).slot k = s.slot k := by cases k <;> rfl
@[simp] theorem State.lane_with_resetLine (s : State) (x : Bool) (l : LaneId) :
    ({ s with resetLine := x } : State).lane l = s.lane l := by cases l <;> rfl
@[simp] theorem State.slot_with_resetLine (s : State) (x : Bool) (k : SlotId) :
    ({ s with resetLine := x } : State).slot k = s.slot k := by cases k <;> rfl
@[simp] theorem State.lane_with_pending (s : State) (x : List Instr) (l : LaneId) :
    ({ s with pending := x } : State).lane l = s.lane l := by cases l <;> rfl
@[simp] theorem State.slot_with_pending (s : State) (x : List Instr) (k : SlotId) :
    ({ s with pending := x } : State).slot k = s.slot k := by cases k <;> rfl

end Sys2Proof.Machine
end

