-- ==== Sys2Proof/Laws/Link.lean ====
section
/-! SUPPORT. What the end of an event and the arrival of a request do when no request waits. -/

namespace Sys2Proof.Machine

/-- With no request waiting, the end of an event only lets the transmitter take a frame. -/
theorem State.settle_of_buffer_nil {s : State} (h : s.link.buffer = []) : s.settle = s.transmit := by
  simp [State.settle, h, State.takeRequests]

/-- A request that is taken at once is performed, and the transmitter then takes a frame. -/
theorem State.submit_of_takesAtOnce {s : State} (h : s.TakesAtOnce) (tag : Nat) (r : Request) :
    s.submit tag r = (s.perform tag r).transmit := by
  obtain ⟨-, hb, hf⟩ := h
  have e : ({ s with link := { s.link with buffer := [] } } : State) = s := by
    conv_rhs => rw [show s = { s with link := { s.link with buffer := s.link.buffer } } from rfl, hb]
  have hf' : ({ s.link with buffer := [⟨tag, r⟩] } : Link).freePlaces ≠ 0 := by
    simp only [Link.freePlaces] at *; omega
  simp [State.submit, hb, Config.bufferCapacity, State.takeRequests, hf', State.takeRequest, e]

/-- The outcome of a request command in a state that takes it at once. -/
theorem State.unlessReset_submit {s : State} (h : s.TakesAtOnce) (tag : Nat) (r : Request) :
    s.unlessReset (s.submit tag r) = .next (s.perform tag r).transmit := by
  rw [State.submit_of_takesAtOnce h]
  simp [State.unlessReset, h.1]

/-- The outcome of an event while RESET is deasserted. -/
theorem State.unlessReset_of_not {s t : State} (h : s.resetLine = false) :
    s.unlessReset t = .next t := by
  simp [State.unlessReset, h]

/-- The outcome of an event while RESET is asserted. -/
theorem State.unlessReset_of_reset {s t : State} (h : s.resetLine = true) :
    s.unlessReset t = .next s := by
  simp [State.unlessReset, h]

/-- A lane field that names a lane passes to the lane's action. -/
theorem State.withLane_eq {s : State} {n : Nat} {l : LaneId} (h : laneOf n = some l) (tag code : Nat)
    (act : LaneId → State) : s.withLane tag code n act = act l := by
  simp [State.withLane, h]

/-- A slot field that names a slot passes to the slot's action. -/
theorem State.withSlot_eq {s : State} {n : Nat} {k : SlotId} (h : slotOf n = some k) (tag code : Nat)
    (act : SlotId → State) : s.withSlot tag code n act = act k := by
  simp [State.withSlot, h]

/-- The gate whose number is one above its index. -/
theorem gateOf_succ (g : Gate) : gateOf (g.val + 1) = some g := by
  have := g.isLt
  simp [gateOf]

end Sys2Proof.Machine
end

