-- ==== Sys2Proof/Laws/Ops.lean ====
section
/-! SUPPORT. What each shared operation leaves alone, said once for each: `State.Frame` for the
operations of the lanes and the track, `State.WideFrame` for those that may also answer a QUERY. -/

namespace Sys2Proof.Machine

/-- `t` differs from `s` in its lanes, plan slots, lookup unit, notices and dispositions at most. -/
structure State.Frame (s t : State) : Prop where
  hot : t.hot = s.hot
  dir : t.dir = s.dir
  checker : t.checker = s.checker
  resetLine : t.resetLine = s.resetLine
  pending : t.pending = s.pending
  rx : t.link.rx = s.link.rx
  buffer : t.link.buffer = s.link.buffer
  tx : t.link.tx = s.link.tx
  coldStart : t.link.coldStart = s.link.coldStart
  responses : t.link.responses = s.link.responses
  reserved : t.link.reserved = s.link.reserved

/-- `t` differs from `s` as `State.Frame` allows, or in its responses and reserved places. -/
structure State.WideFrame (s t : State) : Prop where
  hot : t.hot = s.hot
  dir : t.dir = s.dir
  checker : t.checker = s.checker
  resetLine : t.resetLine = s.resetLine
  pending : t.pending = s.pending
  rx : t.link.rx = s.link.rx
  buffer : t.link.buffer = s.link.buffer
  tx : t.link.tx = s.link.tx
  coldStart : t.link.coldStart = s.link.coldStart

theorem State.Frame.refl (s : State) : s.Frame s := ⟨rfl, rfl, rfl, rfl, rfl, rfl, rfl, rfl, rfl, rfl, rfl⟩

theorem State.Frame.trans {s t u : State} (h : s.Frame t) (k : t.Frame u) : s.Frame u :=
  ⟨k.hot.trans h.hot, k.dir.trans h.dir, k.checker.trans h.checker, k.resetLine.trans h.resetLine,
    k.pending.trans h.pending, k.rx.trans h.rx, k.buffer.trans h.buffer, k.tx.trans h.tx,
    k.coldStart.trans h.coldStart, k.responses.trans h.responses, k.reserved.trans h.reserved⟩

theorem State.Frame.wide {s t : State} (h : s.Frame t) : s.WideFrame t :=
  ⟨h.hot, h.dir, h.checker, h.resetLine, h.pending, h.rx, h.buffer, h.tx, h.coldStart⟩

theorem State.WideFrame.trans {s t u : State} (h : s.WideFrame t) (k : t.WideFrame u) : s.WideFrame u :=
  ⟨k.hot.trans h.hot, k.dir.trans h.dir, k.checker.trans h.checker, k.resetLine.trans h.resetLine,
    k.pending.trans h.pending, k.rx.trans h.rx, k.buffer.trans h.buffer, k.tx.trans h.tx,
    k.coldStart.trans h.coldStart⟩

/-! ### The record with a number -/

/-- An update that keeps the number is read back from the record. -/
theorem Lane.piece_modPiece {L : Lane} {n : Nat} {p : Piece} (f : Piece → Piece)
    (h : L.piece n = some p) (hf : (f p).number = n) : (L.modPiece n f).piece n = some (f p) := by
  simp only [Lane.piece, Lane.modPiece] at h ⊢
  generalize L.track = t at h
  induction t with
  | nil => simp at h
  | cons q qs ih =>
    by_cases hq : q.number = n
    · simp only [List.find?_cons, hq, decide_true, Option.some.injEq] at h
      subst h
      simp [hq, hf]
    · simp only [List.find?_cons, hq, decide_false] at h
      simpa [hq] using ih h

/-- The record found has the number asked for. -/
theorem Lane.number_of_piece {L : Lane} {n : Nat} {p : Piece} (h : L.piece n = some p) :
    p.number = n := by
  simpa using List.find?_some h

/-! ### Elementary updates -/

theorem State.modLane_frame (s : State) (l : LaneId) (f : Lane → Lane) : s.Frame (s.modLane l f) := by
  constructor <;> simp

theorem State.modSlot_frame (s : State) (k : SlotId) (f : PlanSlot → PlanSlot) :
    s.Frame (s.modSlot k f) := by
  constructor <;> simp

theorem State.raise_frame (s : State) (n : Notice) : s.Frame (s.raise n) := by
  constructor <;> simp

theorem State.offer_frame (s : State) (d : Disposition) : s.Frame (s.offer d) := by
  constructor <;> simp

theorem State.countDevice_frame (s : State) (f : DeviceCounters → DeviceCounters) :
    s.Frame (s.countDevice f) := by
  constructor <;> rfl

theorem State.countLane_frame (s : State) (l : LaneId) (f : LaneCounters → LaneCounters) :
    s.Frame (s.countLane l f) := s.modLane_frame l _

theorem State.modPiece_frame (s : State) (l : LaneId) (n : Nat) (f : Piece → Piece) :
    s.Frame (s.modPiece l n f) := s.modLane_frame l _

theorem State.lookup_frame (s : State) (u : LookupUnit) : s.Frame { s with lookup := u } := by
  constructor <;> rfl

/-! ### Notices, bins and references -/

theorem State.raiseAll_frame (ns : List Notice) (s : State) : s.Frame (s.raiseAll ns) := by
  induction ns generalizing s with
  | nil => exact .refl s
  | cons n ns ih => exact (s.raise_frame n).trans (ih _)

@[simp] theorem State.lane_raiseAll (ns : List Notice) (s : State) (l : LaneId) :
    (s.raiseAll ns).lane l = s.lane l := by
  induction ns generalizing s with
  | nil => rfl
  | cons n ns ih => exact (ih (s.raise n)).trans (s.lane_raise n l)

@[simp] theorem State.slot_raiseAll (ns : List Notice) (s : State) (k : SlotId) :
    (s.raiseAll ns).slot k = s.slot k := by
  induction ns generalizing s with
  | nil => rfl
  | cons n ns ih => exact (ih (s.raise n)).trans (s.slot_raise n k)

@[simp] theorem State.lookup_raiseAll (ns : List Notice) (s : State) :
    (s.raiseAll ns).lookup = s.lookup := by
  induction ns generalizing s with
  | nil => rfl
  | cons n ns ih => exact (ih (s.raise n)).trans rfl

theorem State.deriveBinsIn_frame (s : State) (l : LaneId) (b : Lane) (o : List Gate) :
    s.Frame (s.deriveBinsIn l b o) := State.raiseAll_frame _ s

theorem State.deriveBins_frame (s : State) (l : LaneId) (b : Lane) : s.Frame (s.deriveBins l b) :=
  State.raiseAll_frame _ s

@[simp] theorem State.lane_deriveBinsIn (s : State) (l l' : LaneId) (b : Lane) (o : List Gate) :
    (s.deriveBinsIn l b o).lane l' = s.lane l' := State.lane_raiseAll _ s l'
@[simp] theorem State.lane_deriveBins (s : State) (l l' : LaneId) (b : Lane) :
    (s.deriveBins l b).lane l' = s.lane l' := State.lane_raiseAll _ s l'
@[simp] theorem State.slot_deriveBinsIn (s : State) (l : LaneId) (b : Lane) (o : List Gate) (k : SlotId) :
    (s.deriveBinsIn l b o).slot k = s.slot k := State.slot_raiseAll _ s k
@[simp] theorem State.slot_deriveBins (s : State) (l : LaneId) (b : Lane) (k : SlotId) :
    (s.deriveBins l b).slot k = s.slot k := State.slot_raiseAll _ s k
@[simp] theorem State.lookup_deriveBinsIn (s : State) (l : LaneId) (b : Lane) (o : List Gate) :
    (s.deriveBinsIn l b o).lookup = s.lookup := State.lookup_raiseAll _ s
@[simp] theorem State.lookup_deriveBins (s : State) (l : LaneId) (b : Lane) :
    (s.deriveBins l b).lookup = s.lookup := State.lookup_raiseAll _ s

theorem State.takeRef_frame (s : State) (k : SlotId) : s.Frame (s.takeRef k) := s.modSlot_frame k _

theorem State.releaseRef_frame (s : State) (k : SlotId) : s.Frame (s.releaseRef k) := by
  unfold State.releaseRef
  split
  · exact (s.modSlot_frame k _).trans (State.raise_frame _ _)
  · exact s.modSlot_frame k _

@[simp] theorem State.lane_takeRef (s : State) (k : SlotId) (l : LaneId) :
    (s.takeRef k).lane l = s.lane l := s.lane_modSlot k _ l
@[simp] theorem State.lookup_takeRef (s : State) (k : SlotId) : (s.takeRef k).lookup = s.lookup :=
  s.lookup_modSlot k _
@[simp] theorem State.link_takeRef (s : State) (k : SlotId) : (s.takeRef k).link = s.link :=
  s.link_modSlot k _
@[simp] theorem State.lane_releaseRef (s : State) (k : SlotId) (l : LaneId) :
    (s.releaseRef k).lane l = s.lane l := by
  unfold State.releaseRef; split <;> simp
@[simp] theorem State.lookup_releaseRef (s : State) (k : SlotId) :
    (s.releaseRef k).lookup = s.lookup := by
  unfold State.releaseRef; split <;> simp

/-- Lanes and references are independent. -/
theorem State.releaseRef_setLane (s : State) (l : LaneId) (x : Lane) (k : SlotId) :
    (s.setLane l x).releaseRef k = (s.releaseRef k).setLane l x := by
  unfold State.releaseRef
  simp only [State.slot_setLane]
  split <;> cases l <;> cases k <;> rfl

@[simp] theorem State.dispositions_releaseRef (s : State) (k : SlotId) :
    (s.releaseRef k).link.dispositions = s.link.dispositions := by
  unfold State.releaseRef; split <;> simp

/-! ### Lane state, queue and track -/

theorem State.enterLane_frame (s : State) (l : LaneId) (st : LaneState) (c : NoticeCause) :
    s.Frame (s.enterLane l st c) := (s.modLane_frame l _).trans (State.raise_frame _ _)

theorem State.grant_frame (s : State) : s.Frame s.grant := by
  unfold State.grant
  split
  · dsimp only
    split
    · exact (s.lookup_frame _).trans (State.modPiece_frame _ _ _ _)
    · exact s.lookup_frame _
  · exact .refl s

@[simp] theorem State.link_grant (s : State) : s.grant.link = s.link := by
  unfold State.grant
  split
  · dsimp only
    split
    · simp [State.modPiece]
    · rfl
  · rfl

@[simp] theorem State.slot_grant (s : State) (k : SlotId) : s.grant.slot k = s.slot k := by
  unfold State.grant
  split
  · dsimp only
    split
    · simp only [State.modPiece, State.slot_modLane]; cases k <;> rfl
    · cases k <;> rfl
  · rfl

theorem State.withdrawDecided_frame (s : State) (l : LaneId) (p : Piece) :
    s.Frame (s.withdrawDecided l p) :=
  ((s.lookup_frame _).trans (State.modPiece_frame _ l p.number _)).trans
    (State.releaseRef_frame _ p.slot)

theorem State.withdrawPiece_frame (s : State) (l : LaneId) (n : Nat) :
    s.Frame (s.withdrawPiece l n) := by
  unfold State.withdrawPiece
  split
  · exact s.withdrawDecided_frame l _
  · exact s.lookup_frame _

theorem State.withdrawLane_frame (s : State) (l : LaneId) : s.Frame (s.withdrawLane l) := by
  unfold State.withdrawLane
  generalize s.lookup.queuedOf l = ns
  induction ns generalizing s with
  | nil => exact .refl s
  | cons n ns ih => exact (s.withdrawPiece_frame l n).trans (ih _)

/-- A withdrawal changes a lane in its records alone, and keeps their numbers and order. -/
theorem State.withdrawPiece_lane (s : State) (l : LaneId) (n : Nat) :
    ∃ tr, (s.withdrawPiece l n).lane l = { s.lane l with track := tr } ∧
      tr.map Piece.number = (s.lane l).track.map Piece.number := by
  unfold State.withdrawPiece
  split
  · rename_i p _
    refine ⟨_, by simp only [State.withdrawDecided, State.modPiece, State.lane_releaseRef,
      State.lane_modLane, if_true, Lane.modPiece, State.lane_with_lookup]; rfl, ?_⟩
    simp only [List.map_map]
    exact List.map_congr_left (fun q _ => by simp only [Function.comp_apply]; split <;> rfl)
  · exact ⟨_, State.lane_with_lookup _ _ _, rfl⟩

@[simp] theorem State.withdrawPiece_other (s : State) (l l' : LaneId) (n : Nat) (h : l' ≠ l) :
    (s.withdrawPiece l n).lane l' = s.lane l' := by
  unfold State.withdrawPiece
  split
  · simp [State.withdrawDecided, State.modPiece, h]
  · simp

@[simp] theorem State.withdrawPiece_engine (s : State) (l : LaneId) (n : Nat) :
    (s.withdrawPiece l n).lookup.engine = s.lookup.engine := by
  unfold State.withdrawPiece
  split
  · simp [State.withdrawDecided, State.modPiece, LookupUnit.withdraw]
  · simp [LookupUnit.withdraw]

@[simp] theorem State.withdrawPiece_queue (s : State) (l : LaneId) (n : Nat) :
    (s.withdrawPiece l n).lookup.queue =
      s.lookup.queue.filter (fun r => r.requester ≠ .piece l n) := by
  unfold State.withdrawPiece
  split
  · rename_i p h
    have hn : p.number = n := by simpa using List.find?_some h
    simp [State.withdrawDecided, State.modPiece, LookupUnit.withdraw, hn]
  · simp [LookupUnit.withdraw]

/-- The withdrawal of a lane's queue changes the lane in its records alone, and keeps their numbers
and order. -/
theorem State.withdrawLane_lane (s : State) (l : LaneId) :
    ∃ tr, (s.withdrawLane l).lane l = { s.lane l with track := tr } ∧
      tr.map Piece.number = (s.lane l).track.map Piece.number := by
  unfold State.withdrawLane
  generalize s.lookup.queuedOf l = ns
  induction ns generalizing s with
  | nil => exact ⟨_, rfl, rfl⟩
  | cons n ns ih =>
    obtain ⟨t1, h1, e1⟩ := s.withdrawPiece_lane l n
    obtain ⟨t2, h2, e2⟩ := ih (s.withdrawPiece l n)
    rw [h1] at h2 e2
    exact ⟨t2, h2, e2.trans e1⟩

@[simp] theorem State.withdrawLane_other (s : State) (l l' : LaneId) (h : l' ≠ l) :
    (s.withdrawLane l).lane l' = s.lane l' := by
  unfold State.withdrawLane
  generalize s.lookup.queuedOf l = ns
  induction ns generalizing s with
  | nil => rfl
  | cons n ns ih => exact (ih _).trans (s.withdrawPiece_other l l' n h)

@[simp] theorem State.withdrawLane_engine (s : State) (l : LaneId) :
    (s.withdrawLane l).lookup.engine = s.lookup.engine := by
  unfold State.withdrawLane
  generalize s.lookup.queuedOf l = ns
  induction ns generalizing s with
  | nil => rfl
  | cons n ns ih => exact (ih _).trans (s.withdrawPiece_engine l n)

@[simp] theorem State.withdrawLane_dispositions (s : State) (l : LaneId) :
    (s.withdrawLane l).link.dispositions = s.link.dispositions := by
  unfold State.withdrawLane
  generalize s.lookup.queuedOf l = ns
  induction ns generalizing s with
  | nil => rfl
  | cons n ns ih =>
    refine (ih _).trans ?_
    change (s.withdrawPiece l n).link.dispositions = _
    unfold State.withdrawPiece
    split <;> simp [State.withdrawDecided, State.modPiece]

/-- No request of the lane stays in the queue, and the requests that stay were there before. -/
theorem State.withdrawLane_queue (s : State) (l : LaneId) (r : LookupRequest) :
    r ∈ (s.withdrawLane l).lookup.queue →
      r ∈ s.lookup.queue ∧ ∀ n, r.requester ≠ .piece l n := by
  have key : ∀ (ns : List Nat) (t : State),
      r ∈ (ns.foldl (fun s n => s.withdrawPiece l n) t).lookup.queue →
        r ∈ t.lookup.queue ∧ ∀ n ∈ ns, r.requester ≠ .piece l n := by
    intro ns
    induction ns with
    | nil => intro t h; exact ⟨h, by simp⟩
    | cons n ns ih =>
      intro t h
      obtain ⟨h1, h2⟩ := ih _ h
      simp only [State.withdrawPiece_queue, List.mem_filter, decide_eq_true_eq] at h1
      exact ⟨h1.1, by simpa [h1.2] using h2⟩
  intro h
  obtain ⟨h1, h2⟩ := key _ _ h
  refine ⟨h1, fun n hn => h2 n ?_ hn⟩
  simp only [LookupUnit.queuedOf, List.mem_filterMap]
  exact ⟨r, h1, by simp [hn]⟩

theorem State.enterFaulted_frame (s : State) (l : LaneId) (c : FaultCause) :
    s.Frame (s.enterFaulted l c) :=
  ((s.modLane_frame l _).trans (State.withdrawLane_frame _ l)).trans (State.raise_frame _ _)

/-- The faulted lane keeps its records but for the fields a withdrawal writes. -/
theorem State.enterFaulted_lane (s : State) (l : LaneId) (c : FaultCause) :
    ∃ tr, (s.enterFaulted l c).lane l = { (s.lane l).fault c with track := tr } ∧
      tr.map Piece.number = (s.lane l).track.map Piece.number := by
  obtain ⟨tr, h, e⟩ := (s.modLane l (fun L => L.fault c)).withdrawLane_lane l
  simp only [State.lane_modLane, if_true] at h e
  exact ⟨tr, by simp only [State.enterFaulted, State.lane_raise, h], e⟩

@[simp] theorem State.enterFaulted_other (s : State) (l l' : LaneId) (c : FaultCause) (h : l' ≠ l) :
    (s.enterFaulted l c).lane l' = s.lane l' := by
  simp [State.enterFaulted, h]

theorem State.faultReport_frame (s : State) (l : LaneId) (c : FaultCause) :
    s.Frame (s.faultReport l c) := by
  unfold State.faultReport
  split
  · exact s.enterFaulted_frame l c
  · exact s.enterFaulted_frame l c
  · exact s.enterFaulted_frame l c
  · exact .refl s
  · exact .refl s

theorem State.reportEmpty_frame (s : State) (l : LaneId) : s.Frame (s.reportEmpty l) := by
  unfold State.reportEmpty
  split
  · exact (s.modLane_frame l _).trans (State.enterLane_frame _ l _ _)
  · exact .refl s

theorem State.settleJam_frame (s : State) (l : LaneId) : s.Frame (s.settleJam l) := by
  unfold State.settleJam
  split
  · exact .refl s
  · split
    · exact .refl s
    · exact (s.modLane_frame l _).trans (State.faultReport_frame _ l _)

theorem State.finalize_frame (s : State) (l : LaneId) (p : Piece) (f : FinalState) :
    s.Frame (s.finalize l p f) := by
  unfold State.finalize
  refine State.Frame.trans ?_ (State.offer_frame _ _)
  have h2 : s.Frame (if p.stage ≠ .decided ∧ p.lookup ≠ .inProgress
      then (s.modLane l (fun L => L.removePiece p.number)).releaseRef p.slot
      else s.modLane l (fun L => L.removePiece p.number)) := by
    split
    · exact (s.modLane_frame l _).trans (State.releaseRef_frame _ _)
    · exact s.modLane_frame l _
  split
  · exact h2.trans (State.lookup_frame _ _)
  · exact h2

/-- A finalization takes the record off its lane's track and changes no lane otherwise. -/
@[simp] theorem State.lane_finalize (s : State) (l l' : LaneId) (p : Piece) (f : FinalState) :
    (s.finalize l p f).lane l' = if l' = l then (s.lane l).removePiece p.number else s.lane l' := by
  unfold State.finalize
  dsimp only
  split <;> split <;> simp only [State.lane_offer, State.lane_with_lookup, State.lane_releaseRef,
    State.lane_modLane]

theorem State.decidePiece_frame (s : State) (l : LaneId) (n : Nat) (b : Lane) :
    s.Frame (s.decidePiece l n b) := by
  unfold State.decidePiece
  split
  · exact .refl s
  · exact ((s.modLane_frame l _).trans (State.deriveBins_frame _ l b)).trans
      (State.releaseRef_frame _ _)

theorem State.decideService_frame (s : State) (l : LaneId) (n c : Nat) (b : Lane) :
    s.Frame (s.decideService l n c b) :=
  (s.modPiece_frame l n _).trans (State.decidePiece_frame _ l n b)

theorem State.takeGateOut_frame (s : State) (l : LaneId) (g : Gate) : s.Frame (s.takeGateOut l g) :=
  ((s.modLane_frame l _).trans (State.raise_frame _ _)).trans (State.modLane_frame _ l _)

theorem State.afterFinalization_frame (s : State) (l : LaneId) (b : Lane) (o : List Gate) :
    s.Frame (s.afterFinalization l b o) :=
  ((s.deriveBinsIn_frame l b o).trans (State.settleJam_frame _ l)).trans (State.reportEmpty_frame _ l)

theorem State.abandonAll_frame (s : State) (l : LaneId) : s.Frame (s.abandonAll l) := by
  unfold State.abandonAll
  generalize (s.lane l).track = ps
  induction ps generalizing s with
  | nil => exact .refl s
  | cons p ps ih => exact (s.finalize_frame l p _).trans (ih _)

theorem State.clearLane_frame (s : State) (l : LaneId) : s.Frame (s.clearLane l) :=
  (((s.abandonAll_frame l).trans (State.modLane_frame _ l _)).trans
    (State.deriveBins_frame _ l _)).trans (State.enterLane_frame _ l _ _)

theorem State.startDrain_frame (s : State) (l : LaneId) : s.Frame (s.startDrain l) :=
  ((s.modLane_frame l _).trans (State.enterLane_frame _ l _ _)).trans (State.reportEmpty_frame _ l)

/-! ### Events of the lanes -/

theorem State.leadingEdge_frame (s : State) (l : LaneId) (k : SlotId) :
    s.Frame (s.leadingEdge l k) := by
  unfold State.leadingEdge
  split
  · split
    · exact s.faultReport_frame l _
    · exact (s.modLane_frame l _).trans (State.takeRef_frame _ k)
  · exact s.countLane_frame l _

theorem State.trailingEdge_frame (s : State) (l : LaneId) : s.Frame (s.trailingEdge l) := by
  unfold State.trailingEdge
  split
  · exact .refl s
  · split
    · exact .refl s
    · split
      · exact (((s.modLane_frame l _).trans (State.releaseRef_frame _ _)).trans
          (State.countLane_frame _ l _)).trans (State.reportEmpty_frame _ l)
      · exact (s.modLane_frame l _).trans (State.deriveBins_frame _ l _)

theorem State.forcedTrail_frame (s : State) (l : LaneId) (n : Nat) : s.Frame (s.forcedTrail l n) := by
  unfold State.forcedTrail
  split
  · exact .refl s
  · split
    · exact .refl s
    · split
      · split
        · exact (s.modLane_frame l _).trans (State.deriveBins_frame _ l _)
        · exact s.modPiece_frame l n _
      · exact .refl s

theorem State.offerLookup_frame (s : State) (l : LaneId) (p : Piece) (key : Key) (b : Lane) :
    s.Frame (s.offerLookup l p key b) := by
  unfold State.offerLookup
  split
  · exact (((s.lookup_frame _).trans (State.modPiece_frame _ l _ _)).trans
      (State.grant_frame _)).trans (State.deriveBins_frame _ l b)
  · exact (s.countLane_frame l _).trans (State.decideService_frame _ l _ _ b)

theorem State.readClose_frame (s : State) (l : LaneId) (n : Nat) : s.Frame (s.readClose l n) := by
  unfold State.readClose
  split
  · exact .refl s
  · split
    · exact .refl s
    · split
      · have h1 := fun f g => (s.modLane_frame l f).trans (State.modPiece_frame _ l n g)
        dsimp only
        split
        · exact h1 _ _
        · split
          · exact (h1 _ _).trans (State.decideService_frame _ l n _ _)
          · exact (h1 _ _).trans (State.offerLookup_frame _ l _ _ _)
          · exact h1 _ _
      · exact .refl s

theorem State.lastChance_frame (s : State) (l : LaneId) (n : Nat) : s.Frame (s.lastChance l n) := by
  unfold State.lastChance
  split
  · exact .refl s
  · split
    · exact .refl s
    · split
      · have h1 := fun f => s.modPiece_frame l n f
        dsimp only
        split
        · exact .refl s
        · exact .refl s
        · exact h1 _
        · refine State.Frame.trans ?_ (State.modLane_frame _ l _)
          split
          · exact (h1 _).trans (State.withdrawDecided_frame _ l _)
          · exact h1 _
      · exact .refl s

theorem State.sensorArrival_frame (s : State) (l : LaneId) (g : Gate) :
    s.Frame (s.sensorArrival l g) := by
  unfold State.sensorArrival
  dsimp only
  split
  · exact ((s.modLane_frame l _).trans (State.countLane_frame _ l _)).trans
      (State.deriveBins_frame _ l _)
  · split
    · exact (((s.modLane_frame l _).trans (State.modLane_frame _ l _)).trans
        (State.finalize_frame _ l _ _)).trans (State.afterFinalization_frame _ l _ _)
    · exact (((s.modLane_frame l _).trans (State.countLane_frame _ l _)).trans
        (State.raise_frame _ _)).trans (State.deriveBins_frame _ l _)

theorem State.windowClose_frame (s : State) (l : LaneId) (n : Nat) : s.Frame (s.windowClose l n) := by
  unfold State.windowClose
  split
  · exact .refl s
  · split
    · exact .refl s
    · split
      · split
        · have h1 := fun p f g => (s.finalize_frame l p f).trans (State.modLane_frame _ l g)
          dsimp only
          split
          · exact ((h1 _ _ _).trans (State.takeGateOut_frame _ l _)).trans
              (State.afterFinalization_frame _ l _ _)
          · exact (h1 _ _ _).trans (State.afterFinalization_frame _ l _ _)
        · exact .refl s
      · exact .refl s

theorem State.runoutEdge_frame (s : State) (l : LaneId) : s.Frame (s.runoutEdge l) := by
  unfold State.runoutEdge
  dsimp only
  split
  · exact (s.modLane_frame l _).trans (State.countLane_frame _ l _)
  · split
    · exact (((s.modLane_frame l _).trans (State.modLane_frame _ l _)).trans
        (State.finalize_frame _ l _ _)).trans (State.afterFinalization_frame _ l _ _)
    · exact ((s.modLane_frame l _).trans (State.countLane_frame _ l _)).trans (State.raise_frame _ _)

theorem State.runoutWindowClose_frame (s : State) (l : LaneId) (n : Nat) :
    s.Frame (s.runoutWindowClose l n) := by
  unfold State.runoutWindowClose
  split
  · exact .refl s
  · split
    · exact .refl s
    · split
      · exact .refl s
      · split
        · exact ((s.finalize_frame l _ _).trans (State.modLane_frame _ l _)).trans
            (State.afterFinalization_frame _ l _ _)
        · exact .refl s

theorem State.startExpires_frame (s : State) (l : LaneId) : s.Frame (s.startExpires l) := by
  unfold State.startExpires
  split
  · exact s.enterFaulted_frame l _
  · exact .refl s

theorem State.drainExpires_frame (s : State) (l : LaneId) : s.Frame (s.drainExpires l) := by
  unfold State.drainExpires
  split
  · exact s.enterFaulted_frame l _
  · exact .refl s

theorem State.qualified_frame (s : State) (l : LaneId) : s.Frame (s.qualified l) := by
  unfold State.qualified
  split
  · exact (s.modLane_frame l _).trans (State.enterLane_frame _ l _ _)
  · exact .refl s

theorem State.windowEnd_frame (s : State) (l : LaneId) : s.Frame (s.windowEnd l) := by
  unfold State.windowEnd
  have h1 := fun f ns => (s.modLane_frame l f).trans (State.raiseAll_frame ns _)
  dsimp only
  split
  · exact (h1 _ _).trans (State.qualified_frame _ l)
  · exact h1 _ _

/-! ### The engine -/

theorem State.setJob_frame (s : State) (j : Job) : s.Frame (s.setJob j) := s.lookup_frame _

theorem State.answer_wideFrame (s : State) (tag code : Nat) (st : Status) (r : Bytes) :
    s.WideFrame (s.answer tag code st r) := by
  constructor <;> rfl

theorem State.deliver_wideFrame (s : State) (j : Job) : s.WideFrame (s.deliver j) := by
  unfold State.deliver
  split
  · split
    · exact ((s.modPiece_frame _ _ _).trans (State.decidePiece_frame _ _ _ _)).wide
    · exact ((s.countDevice_frame _).trans (State.releaseRef_frame _ _)).wide
  · refine State.WideFrame.trans ?_ (State.releaseRef_frame _ _).wide
    constructor <;> rfl

theorem State.endLookup_wideFrame (s : State) (j : Job) : s.WideFrame (s.endLookup j) :=
  ((s.deliver_wideFrame j).trans (State.lookup_frame _ _).wide).trans (State.grant_frame _).wide

theorem State.directoryResult_wideFrame (s : State) (j : Job) (r : SearchResult) :
    s.WideFrame (s.directoryResult j r) := by
  have hf : s.WideFrame (match (s.slot j.request.slot).settings.policy with
      | .fallback => s.setJob { j with stage := .range, flags := { j.flags with dirFallback := true } }
      | .fault => s.endLookup { j with result := some (4, .service) }) := by
    split
    · exact (s.setJob_frame _).wide
    · exact s.endLookup_wideFrame _
  unfold State.directoryResult
  dsimp only
  split
  · split
    · exact (s.setJob_frame _).wide
    · exact (s.setJob_frame _).wide
  · exact (s.setJob_frame _).wide
  · exact hf
  · exact hf

theorem State.handResult_wideFrame (s : State) (r : SearchResult) : s.WideFrame (s.handResult r) := by
  unfold State.handResult
  split
  · split
    · exact s.directoryResult_wideFrame _ r
    · exact (State.Frame.refl s).wide
  · exact (State.Frame.refl s).wide

theorem State.holdNotice_frame (s : State) (g : Bool) : s.Frame (s.holdNotice g) := by
  unfold State.holdNotice
  split
  · exact s.raise_frame _
  · exact .refl s

end Sys2Proof.Machine
end

