-- ==== Sys2Proof/Laws/Keeps.lean ====
section
/-! SUPPORT. What every event within the part keeps of its lanes and plan slots, said once for each
operation: `State.Mild`. A mild change keeps each lane sound, starts no lane, and moves a plan slot
only as the release of a reference does. -/

namespace Sys2Proof.Machine

/-- `q` is `p` after releases of references (R85, R86). -/
structure PlanSlot.Released (p q : PlanSlot) : Prop where
  formats : q.formats = p.formats
  formatsPtr : q.formatsPtr = p.formatsPtr
  ranges : q.ranges = p.ranges
  rangesPtr : q.rangesPtr = p.rangesPtr
  doctypes : q.doctypes = p.doctypes
  doctypesPtr : q.doctypesPtr = p.doctypesPtr
  refs : q.refs ≤ p.refs
  state : q.state = p.state ∨ p.state = .retiring ∧ q.state = .ready

theorem PlanSlot.Released.refl (p : PlanSlot) : p.Released p :=
  ⟨rfl, rfl, rfl, rfl, rfl, rfl, Nat.le_refl _, .inl rfl⟩

theorem PlanSlot.Released.trans {p q r : PlanSlot} (h : p.Released q) (k : q.Released r) : p.Released r where
  formats := k.formats.trans h.formats
  formatsPtr := k.formatsPtr.trans h.formatsPtr
  ranges := k.ranges.trans h.ranges
  rangesPtr := k.rangesPtr.trans h.rangesPtr
  doctypes := k.doctypes.trans h.doctypes
  doctypesPtr := k.doctypesPtr.trans h.doctypesPtr
  refs := k.refs.trans h.refs
  state := by
    rcases h.state with e | ⟨e, e'⟩ <;> rcases k.state with f | ⟨f, f'⟩
    · exact .inl (f.trans e)
    · exact .inr ⟨e ▸ f, f'⟩
    · exact .inr ⟨e, f.trans e'⟩
    · exact .inr ⟨e, f'⟩

/-- `t` follows from `s` by changes that keep each lane sound, start no lane, and move plan slots only
as releases of references do. -/
structure State.Mild (s t : State) : Prop where
  lanes : ∀ l, (s.lane l).Sound → (t.lane l).Sound
  takes : ∀ l, (t.lane l).state.takes = true → (s.lane l).state.takes = true
  slots : ∀ k, (s.slot k).Released (t.slot k)

theorem State.Mild.refl (s : State) : s.Mild s := ⟨fun _ h => h, fun _ h => h, fun _ => .refl _⟩

theorem State.Mild.trans {s t u : State} (h : s.Mild t) (k : t.Mild u) : s.Mild u :=
  ⟨fun l x => k.lanes l (h.lanes l x), fun l x => h.takes l (k.takes l x),
    fun i => (h.slots i).trans (k.slots i)⟩

/-- A change that leaves lanes and slots alone. -/
theorem State.Mild.of_same {s t : State} (hl : ∀ l, t.lane l = s.lane l) (hk : ∀ k, t.slot k = s.slot k) :
    s.Mild t :=
  ⟨fun l h => hl l ▸ h, fun l h => hl l ▸ h, fun k => hk k ▸ .refl _⟩

/-! ### Lanes -/

/-- A change of a lane that leaves what `Lane.Sound` speaks of alone, but for records that leave the
track. -/
structure Lane.Calm (L M : Lane) : Prop where
  state : M.state = L.state
  run : M.run = L.run
  startTimer : M.startTimer = L.startTimer
  drainTimer : M.drainTimer = L.drainTimer
  holds : M.holds = L.holds
  gateOut : M.gateOut = L.gateOut
  speed : M.speed = L.speed
  track : M.track.length ≤ L.track.length

theorem Lane.Calm.refl (L : Lane) : L.Calm L := ⟨rfl, rfl, rfl, rfl, rfl, rfl, rfl, Nat.le_refl _⟩

theorem Lane.Calm.trans {L M N : Lane} (h : L.Calm M) (k : M.Calm N) : L.Calm N :=
  ⟨k.state.trans h.state, k.run.trans h.run, k.startTimer.trans h.startTimer,
    k.drainTimer.trans h.drainTimer, k.holds.trans h.holds, k.gateOut.trans h.gateOut,
    k.speed.trans h.speed, k.track.trans h.track⟩

theorem Lane.Calm.sound {L M : Lane} (h : L.Calm M) (s : L.Sound) : M.Sound where
  run := by rw [h.run, h.state, s.run]
  startTimer := by rw [h.startTimer, h.state]; exact s.startTimer
  drainTimer := by rw [h.drainTimer, h.state]; exact s.drainTimer
  stopped := fun e => by
    have := h.track
    rw [s.stopped (h.state ▸ e)] at this
    exact List.eq_nil_of_length_eq_zero (Nat.le_zero.1 this)
  track := h.track.trans s.track
  gates := by rw [h.gateOut, h.holds]; exact s.gates
  closed := by rw [h.state, h.gateOut]; exact s.closed
  alert := by rw [h.speed]; exact s.alert
  latch := by rw [h.speed]; exact s.latch
  crit := by rw [h.speed]; exact s.crit

theorem Lane.modPiece_calm (L : Lane) (n : Nat) (f : Piece → Piece) : L.Calm (L.modPiece n f) :=
  ⟨rfl, rfl, rfl, rfl, rfl, rfl, rfl, by simp [Lane.modPiece]⟩

theorem Lane.removePiece_calm (L : Lane) (n : Nat) : L.Calm (L.removePiece n) :=
  ⟨rfl, rfl, rfl, rfl, rfl, rfl, rfl, List.length_filter_le _ _⟩

theorem Lane.setTrail_calm (L : Lane) (p : Piece) : L.Calm (L.setTrail p) :=
  (L.modPiece_calm _ _).trans (Lane.modPiece_calm _ _ _)

theorem Lane.forceTrail_calm (L : Lane) (p : Piece) : L.Calm (L.forceTrail p) :=
  (L.modPiece_calm _ _).trans (Lane.modPiece_calm _ _ _)

theorem Lane.rerouteAll_calm (L : Lane) (g : Gate) : L.Calm (L.rerouteAll g) := by
  unfold Lane.rerouteAll
  generalize L.track.filter _ = ps
  induction ps generalizing L with
  | nil => exact .refl L
  | cons p ps ih => exact (L.modPiece_calm _ _).trans (ih _)

theorem Lane.decidePiece_calm (L : Lane) (slot : PlanSlot) (l : LaneId) (n : Nat) :
    L.Calm (L.decidePiece slot l n) := by
  unfold Lane.decidePiece
  split
  · exact .refl L
  · dsimp only
    split
    · exact L.modPiece_calm _ _
    · split
      · exact (L.modPiece_calm _ _).trans (Lane.modPiece_calm _ _ _)
      · exact L.modPiece_calm _ _

theorem Lane.placeReport_calm (L : Lane) (h : HeadId) (r : Report) : L.Calm (L.placeReport h r) := by
  unfold Lane.placeReport
  split
  · exact ⟨rfl, rfl, rfl, rfl, rfl, rfl, rfl, Nat.le_refl _⟩
  · dsimp only
    repeat' split
    all_goals
      first
        | exact ⟨rfl, rfl, rfl, rfl, rfl, rfl, rfl, Nat.le_refl _⟩
        | exact ⟨rfl, rfl, rfl, rfl, rfl, rfl, rfl, by simp [Lane.modPiece]⟩

theorem Lane.scanReport_calm (L : Lane) (head : Nat) (stamp : Position) (result : Nat) (chars : Bytes) :
    L.Calm (L.scanReport head stamp result chars) := by
  unfold Lane.scanReport
  repeat' split
  all_goals
    first
      | exact ⟨rfl, rfl, rfl, rfl, rfl, rfl, rfl, Nat.le_refl _⟩
      | exact L.placeReport_calm _ _
      | (refine Lane.Calm.trans ?_ (Lane.placeReport_calm _ _ _)
         exact ⟨rfl, rfl, rfl, rfl, rfl, rfl, rfl, Nat.le_refl _⟩)

/-- A lane whose holds are dropped as it enters STOPPED or FAULTED is sound. -/
theorem Lane.closed_sound {L M : Lane} (s : L.Sound) (hs : M.state = .stopped ∨ M.state = .faulted)
    (hr : M.run = false) (ht : M.startTimer = false) (hd : M.drainTimer = false)
    (hk : M.state = .stopped → M.track = []) (hl : M.track.length ≤ L.track.length)
    (hh : M.holds = Vector.replicate 12 []) (hg : M.gateOut = Vector.replicate 12 false)
    (hm : M.speed = L.speed) : M.Sound where
  run := by rcases hs with e | e <;> rw [hr, e] <;> rfl
  startTimer := by simp [ht]
  drainTimer := by simp [hd]
  stopped := hk
  track := hl.trans s.track
  gates := by simp [hh, hg]
  closed := by simp [hg]
  alert := by rw [hm]; exact s.alert
  latch := by rw [hm]; exact s.latch
  crit := by rw [hm]; exact s.crit

/-- A running lane stays sound through a change of state among the running ones. -/
theorem Lane.running_sound {L M : Lane} (s : L.Sound) (hs : M.state.takes = true) (hr : M.run = true)
    (ht : M.startTimer = true → M.state = .starting) (hd : M.drainTimer = true → M.state = .draining)
    (hl : M.track.length ≤ L.track.length) (hh : M.holds = L.holds) (hg : M.gateOut = L.gateOut)
    (hm : M.speed.line = M.speed.alertLevel) (hn : M.speed.latch = true → M.speed.mode = .latch)
    (hc : M.speed.mode = .latch → M.speed.crit = true → M.speed.latch = true) : M.Sound where
  run := by rw [hr]; cases e : M.state <;> simp_all [LaneState.takes, LaneState.runs]
  startTimer := ht
  drainTimer := hd
  stopped := fun e => by simp [e, LaneState.takes] at hs
  track := hl.trans s.track
  gates := by rw [hh, hg]; exact s.gates
  closed := fun e => by rcases e with e | e <;> simp [e, LaneState.takes] at hs
  alert := hm
  latch := hn
  crit := hc

/-! ### Operations -/

theorem State.modLane_mild (s : State) (l : LaneId) (f : Lane → Lane)
    (hs : (s.lane l).Sound → (f (s.lane l)).Sound)
    (ht : (f (s.lane l)).state.takes = true → (s.lane l).state.takes = true) :
    s.Mild (s.modLane l f) := by
  refine ⟨fun l' h => ?_, fun l' h => ?_, fun k => by simpa using .refl _⟩
  · rw [State.lane_modLane]; split
    · subst_vars; exact hs h
    · exact h
  · rw [State.lane_modLane] at h; split at h
    · subst_vars; exact ht h
    · exact h

/-- Two changes of one lane are one. -/
theorem State.modLane_modLane (s : State) (l : LaneId) (f g : Lane → Lane) :
    (s.modLane l f).modLane l g = s.modLane l (fun L => g (f L)) := by
  simp [State.modLane]

theorem State.calm_mild (s : State) (l : LaneId) (f : Lane → Lane)
    (h : (s.lane l).Calm (f (s.lane l))) : s.Mild (s.modLane l f) :=
  s.modLane_mild l f h.sound (by rw [h.state]; exact id)

theorem State.modPiece_mild (s : State) (l : LaneId) (n : Nat) (f : Piece → Piece) :
    s.Mild (s.modPiece l n f) := s.calm_mild l _ (Lane.modPiece_calm _ _ _)

theorem State.countLane_mild (s : State) (l : LaneId) (f : LaneCounters → LaneCounters) :
    s.Mild (s.countLane l f) :=
  s.calm_mild l _ ⟨rfl, rfl, rfl, rfl, rfl, rfl, rfl, Nat.le_refl _⟩

theorem State.raise_mild (s : State) (n : Notice) : s.Mild (s.raise n) := .of_same (by simp) (by simp)

theorem State.offer_mild (s : State) (d : Disposition) : s.Mild (s.offer d) :=
  .of_same (by simp) (by simp)

theorem State.raiseAll_mild (s : State) (ns : List Notice) : s.Mild (s.raiseAll ns) :=
  .of_same (by simp) (by simp)

theorem State.answer_mild (s : State) (tag code : Nat) (st : Status) (r : Bytes) :
    s.Mild (s.answer tag code st r) := .of_same (by simp) (by simp)

theorem State.transmit_mild (s : State) : s.Mild s.transmit := .of_same (by simp) (by simp)

theorem State.countDevice_mild (s : State) (f : DeviceCounters → DeviceCounters) :
    s.Mild (s.countDevice f) := .of_same (by simp) (by simp)

theorem State.lookup_mild (s : State) (u : LookupUnit) : s.Mild { s with lookup := u } :=
  .of_same (State.lane_with_lookup s u) (State.slot_with_lookup s u)

theorem State.dir_mild (s : State) (d : Directory) : s.Mild { s with dir := d } :=
  .of_same (State.lane_with_dir s d) (State.slot_with_dir s d)

theorem State.link_mild (s : State) (k : Link) : s.Mild { s with link := k } :=
  .of_same (State.lane_with_link s k) (State.slot_with_link s k)

theorem State.deriveBins_mild (s : State) (l : LaneId) (b : Lane) : s.Mild (s.deriveBins l b) :=
  s.raiseAll_mild _

theorem State.releaseRef_mild (s : State) (k : SlotId) : s.Mild (s.releaseRef k) := by
  refine ⟨fun l h => by simpa using h, fun l h => by simpa using h, fun k' => ?_⟩
  unfold State.releaseRef
  split
  · rename_i e
    simp only [State.slot_raise, State.slot_modSlot]
    split
    · subst_vars; exact ⟨rfl, rfl, rfl, rfl, rfl, rfl, Nat.sub_le _ _, .inr ⟨e.1, rfl⟩⟩
    · exact .refl _
  · simp only [State.slot_modSlot]
    split
    · subst_vars; exact ⟨rfl, rfl, rfl, rfl, rfl, rfl, Nat.sub_le _ _, .inl rfl⟩
    · exact .refl _

theorem State.grant_mild (s : State) : s.Mild s.grant := by
  unfold State.grant
  split
  · dsimp only
    split
    · exact (s.lookup_mild _).trans (State.modPiece_mild _ _ _ _)
    · exact s.lookup_mild _
  · exact .refl s

theorem State.withdrawDecided_mild (s : State) (l : LaneId) (p : Piece) :
    s.Mild (s.withdrawDecided l p) :=
  ((s.lookup_mild _).trans (State.modPiece_mild _ l p.number _)).trans (State.releaseRef_mild _ p.slot)

theorem State.withdrawLane_mild (s : State) (l : LaneId) : s.Mild (s.withdrawLane l) := by
  unfold State.withdrawLane
  generalize s.lookup.queuedOf l = ns
  induction ns generalizing s with
  | nil => exact .refl s
  | cons n ns ih =>
    refine State.Mild.trans (t := s.withdrawPiece l n) ?_ (ih _)
    unfold State.withdrawPiece
    split
    · exact s.withdrawDecided_mild l _
    · exact s.lookup_mild _

theorem State.enterFaulted_mild (s : State) (l : LaneId) (c : FaultCause) :
    s.Mild (s.enterFaulted l c) := by
  refine ((s.modLane_mild l (fun L => L.fault c) (fun h => ?_) (fun h => ?_)).trans
    (State.withdrawLane_mild _ l)).trans (State.raise_mild _ _)
  · exact Lane.closed_sound h (.inr rfl) rfl rfl rfl (fun e => by cases e) (Nat.le_refl _) rfl rfl rfl
  · cases h

theorem State.faultReport_mild (s : State) (l : LaneId) (c : FaultCause) :
    s.Mild (s.faultReport l c) := by
  unfold State.faultReport
  split
  all_goals first | exact s.enterFaulted_mild l c | exact .refl s

theorem State.reportEmpty_mild (s : State) (l : LaneId) : s.Mild (s.reportEmpty l) := by
  unfold State.reportEmpty
  split
  · rename_i e
    refine State.Mild.trans (t := (s.modLane l (fun L => { L with drainTimer := false }.dropHolds)).modLane l
      (fun L => L.enter .stopped)) ?_ (State.raise_mild _ _)
    rw [State.modLane_modLane]
    refine s.modLane_mild l _ (fun h => ?_) (fun h => by cases h)
    refine Lane.closed_sound h (.inl rfl) rfl ?_ rfl (fun _ => e.1) (Nat.le_refl _) rfl rfl rfl
    cases c : (s.lane l).startTimer
    · simp [Lane.enter, Lane.dropHolds]
    · have := h.startTimer c; rw [e.2] at this; cases this
  · exact .refl s

theorem State.settleJam_mild (s : State) (l : LaneId) : s.Mild (s.settleJam l) := by
  unfold State.settleJam
  split
  · exact .refl s
  · split
    · exact .refl s
    · exact (s.calm_mild l _ ⟨rfl, rfl, rfl, rfl, rfl, rfl, rfl, Nat.le_refl _⟩).trans
        (State.faultReport_mild _ l _)

theorem State.finalize_mild (s : State) (l : LaneId) (p : Piece) (f : FinalState) :
    s.Mild (s.finalize l p f) := by
  refine State.Mild.trans ?_ (State.offer_mild _ _)
  have h1 := s.calm_mild l (fun L => L.removePiece p.number) (Lane.removePiece_calm _ _)
  split
  · split
    · exact (h1.trans (State.releaseRef_mild _ _)).trans (State.lookup_mild _ _)
    · exact h1.trans (State.lookup_mild _ _)
  · split
    · exact h1.trans (State.releaseRef_mild _ _)
    · exact h1

theorem State.decidePiece_mild (s : State) (l : LaneId) (n : Nat) (b : Lane) :
    s.Mild (s.decidePiece l n b) := by
  unfold State.decidePiece
  split
  · exact .refl s
  · exact ((s.calm_mild l _ (Lane.decidePiece_calm _ _ _ _)).trans (State.deriveBins_mild _ _ _)).trans
      (State.releaseRef_mild _ _)

theorem State.decideService_mild (s : State) (l : LaneId) (n c : Nat) (b : Lane) :
    s.Mild (s.decideService l n c b) := (s.modPiece_mild l n _).trans (State.decidePiece_mild _ l n b)

theorem State.takeGateOut_mild (s : State) (l : LaneId) (g : Gate) : s.Mild (s.takeGateOut l g) :=
  ((s.calm_mild l _ ⟨rfl, rfl, rfl, rfl, rfl, rfl, rfl, Nat.le_refl _⟩).trans (State.raise_mild _ _)).trans
    (State.calm_mild _ l _ (Lane.rerouteAll_calm _ g))

theorem State.afterFinalization_mild (s : State) (l : LaneId) (b : Lane) (o : List Gate) :
    s.Mild (s.afterFinalization l b o) :=
  ((s.raiseAll_mild _).trans (State.settleJam_mild _ l)).trans (State.reportEmpty_mild _ l)

theorem State.abandonAll_mild (s : State) (l : LaneId) : s.Mild (s.abandonAll l) := by
  unfold State.abandonAll
  generalize (s.lane l).track = ps
  induction ps generalizing s with
  | nil => exact .refl s
  | cons p ps ih => exact (s.finalize_mild l p _).trans (ih _)

theorem State.trailingEdge_mild (s : State) (l : LaneId) : s.Mild (s.trailingEdge l) := by
  unfold State.trailingEdge
  split
  · exact .refl s
  · split
    · exact .refl s
    · split
      · exact (((s.calm_mild l _ (Lane.removePiece_calm _ _)).trans (State.releaseRef_mild _ _)).trans
          (State.countLane_mild _ _ _)).trans (State.reportEmpty_mild _ _)
      · exact (s.calm_mild l _ (Lane.setTrail_calm _ _)).trans (State.deriveBins_mild _ _ _)

theorem State.forcedTrail_mild (s : State) (l : LaneId) (n : Nat) : s.Mild (s.forcedTrail l n) := by
  unfold State.forcedTrail
  split
  · exact .refl s
  · split
    · exact .refl s
    · split
      · split
        · exact (s.calm_mild l _ (Lane.forceTrail_calm _ _)).trans (State.deriveBins_mild _ _ _)
        · exact s.modPiece_mild l n _
      · exact .refl s

theorem State.offerLookup_mild (s : State) (l : LaneId) (p : Piece) (key : Key) (b : Lane) :
    s.Mild (s.offerLookup l p key b) := by
  unfold State.offerLookup
  split
  · exact (((s.lookup_mild _).trans (State.modPiece_mild _ _ _ _)).trans (State.grant_mild _)).trans
      (State.deriveBins_mild _ _ _)
  · exact (s.countLane_mild l _).trans (State.decideService_mild _ _ _ _ _)

theorem State.readClose_mild (s : State) (l : LaneId) (n : Nat) : s.Mild (s.readClose l n) := by
  unfold State.readClose
  split
  · exact .refl s
  · split
    · exact .refl s
    · rename_i p _
      split
      · have h1 : (s.lane l).Calm ((s.lane l).closeRead p) := by
          unfold Lane.closeRead
          split
          · exact ((s.lane l).forceTrail_calm p).trans (Lane.modPiece_calm _ _ _)
          · exact (s.lane l).modPiece_calm _ _
        have h2 := (s.calm_mild l (fun L => L.closeRead p) h1).trans
          (State.modPiece_mild _ l n (fun q => q.resolve (s.slot p.slot).formats))
        dsimp only
        split
        · exact h2
        · split
          · exact h2.trans (State.decideService_mild _ _ _ _ _)
          · exact h2.trans (State.offerLookup_mild _ _ _ _ _)
          · exact h2
      · exact .refl s

theorem State.lastChance_mild (s : State) (l : LaneId) (n : Nat) : s.Mild (s.lastChance l n) := by
  unfold State.lastChance
  split
  · exact .refl s
  · split
    · exact .refl s
    · split
      · dsimp only
        split
        · exact .refl s
        · exact .refl s
        · exact s.modPiece_mild l n _
        · refine State.Mild.trans ?_ (State.calm_mild _ l _ (Lane.modPiece_calm _ _ _))
          split
          · exact (s.modPiece_mild l n _).trans (State.withdrawDecided_mild _ _ _)
          · exact s.modPiece_mild l n _
      · exact .refl s

theorem State.sensorArrival_mild (s : State) (l : LaneId) (g : Gate) : s.Mild (s.sensorArrival l g) := by
  have h1 := s.calm_mild l (fun L => L.modBin g Bin.confirm)
    ⟨rfl, rfl, rfl, rfl, rfl, rfl, rfl, Nat.le_refl _⟩
  unfold State.sensorArrival
  dsimp only
  split
  · exact (h1.trans (State.countLane_mild _ _ _)).trans (State.deriveBins_mild _ _ _)
  · split
    · exact ((h1.trans (State.calm_mild _ l _ ⟨rfl, rfl, rfl, rfl, rfl, rfl, rfl, Nat.le_refl _⟩)).trans
        (State.finalize_mild _ _ _ _)).trans (State.afterFinalization_mild _ _ _ _)
    · exact ((h1.trans (State.countLane_mild _ _ _)).trans (State.raise_mild _ _)).trans
        (State.deriveBins_mild _ _ _)

theorem State.windowClose_mild (s : State) (l : LaneId) (n : Nat) : s.Mild (s.windowClose l n) := by
  unfold State.windowClose
  split
  · exact .refl s
  · split
    · exact .refl s
    · split
      · split
        · have h1 := fun p g => (s.finalize_mild l p .unconfirmed).trans (State.calm_mild _ l
            (fun L => L.modBin g Bin.missOne) ⟨rfl, rfl, rfl, rfl, rfl, rfl, rfl, Nat.le_refl _⟩)
          dsimp only
          split
          · exact ((h1 _ _).trans (State.takeGateOut_mild _ _ _)).trans (State.afterFinalization_mild _ _ _ _)
          · exact (h1 _ _).trans (State.afterFinalization_mild _ _ _ _)
        · exact .refl s
      · exact .refl s

theorem State.runoutEdge_mild (s : State) (l : LaneId) : s.Mild (s.runoutEdge l) := by
  have h1 := s.calm_mild l Lane.confirmRunout ⟨rfl, rfl, rfl, rfl, rfl, rfl, rfl, Nat.le_refl _⟩
  unfold State.runoutEdge
  dsimp only
  split
  · exact h1.trans (State.countLane_mild _ _ _)
  · split
    · exact ((h1.trans (State.calm_mild _ l _ ⟨rfl, rfl, rfl, rfl, rfl, rfl, rfl, Nat.le_refl _⟩)).trans
        (State.finalize_mild _ _ _ _)).trans (State.afterFinalization_mild _ _ _ _)
    · exact (h1.trans (State.countLane_mild _ _ _)).trans (State.raise_mild _ _)

theorem State.runoutWindowClose_mild (s : State) (l : LaneId) (n : Nat) :
    s.Mild (s.runoutWindowClose l n) := by
  unfold State.runoutWindowClose
  split
  · exact .refl s
  · split
    · exact .refl s
    · split
      · exact .refl s
      · split
        · refine ((s.finalize_mild l _ .lost).trans (State.calm_mild _ l _ ?_)).trans
            (State.afterFinalization_mild _ _ _ _)
          unfold Lane.loseOne
          dsimp only
          split <;> exact ⟨rfl, rfl, rfl, rfl, rfl, rfl, rfl, Nat.le_refl _⟩
        · exact .refl s

theorem State.startExpires_mild (s : State) (l : LaneId) : s.Mild (s.startExpires l) := by
  unfold State.startExpires
  split
  · exact s.enterFaulted_mild l _
  · exact .refl s

theorem State.drainExpires_mild (s : State) (l : LaneId) : s.Mild (s.drainExpires l) := by
  unfold State.drainExpires
  split
  · exact s.enterFaulted_mild l _
  · exact .refl s

theorem State.deliver_mild (s : State) (j : Job) : s.Mild (s.deliver j) := by
  unfold State.deliver
  split
  · split
    · exact (s.modPiece_mild _ _ _).trans (State.decidePiece_mild _ _ _ _)
    · exact (s.countDevice_mild _).trans (State.releaseRef_mild _ _)
  · exact ((s.link_mild _).trans (State.answer_mild _ _ _ _ _)).trans (State.releaseRef_mild _ _)

theorem State.endLookup_mild (s : State) (j : Job) : s.Mild (s.endLookup j) :=
  ((s.deliver_mild j).trans (State.lookup_mild _ _)).trans (State.grant_mild _)

theorem State.setJob_mild (s : State) (j : Job) : s.Mild (s.setJob j) := s.lookup_mild _

theorem State.directoryResult_mild (s : State) (j : Job) (r : SearchResult) :
    s.Mild (s.directoryResult j r) := by
  unfold State.directoryResult
  dsimp only
  repeat' split
  all_goals first | exact s.setJob_mild _ | exact s.endLookup_mild _

theorem State.handResult_mild (s : State) (r : SearchResult) : s.Mild (s.handResult r) := by
  unfold State.handResult
  repeat' split
  all_goals first | exact s.directoryResult_mild _ _ | exact .refl s

theorem State.afterHot_mild (s : State) (j : Job) : s.Mild (s.afterHot j) := by
  unfold State.afterHot
  split
  · unfold State.askDirectory
    repeat' split
    all_goals
      first
        | exact s.directoryResult_mild _ _
        | exact (s.dir_mild _).trans (State.directoryResult_mild _ _ _)
        | exact (s.setJob_mild _).trans (State.dir_mild _ _)
  · exact s.setJob_mild _

theorem State.holdNotice_mild (s : State) (g : Bool) : s.Mild (s.holdNotice g) := by
  unfold State.holdNotice
  split
  · exact s.raise_mild _
  · exact .refl s

theorem State.endSearch_mild (s : State) (r : SearchResult) : s.Mild (s.endSearch r) :=
  ((s.dir_mild _).trans (State.handResult_mild _ r)).trans (State.holdNotice_mild _ _)

theorem State.searchTimeout_mild (s : State) : s.Mild s.searchTimeout := by
  unfold State.searchTimeout
  dsimp only
  refine State.Mild.trans ?_ (State.holdNotice_mild _ _)
  refine State.Mild.trans ?_ (State.handResult_mild _ _)
  split
  · exact ((s.dir_mild _).trans (State.raise_mild _ _)).trans (State.raise_mild _ _)
  · exact (s.dir_mild _).trans (State.raise_mild _ _)

theorem State.probeComplete_mild (s : State) (q : Search) (w0 w1 : DirWord) :
    s.Mild (s.probeComplete q w0 w1) := by
  unfold State.probeComplete
  dsimp only
  repeat' split
  all_goals
    first
      | exact (s.dir_mild _).trans (State.endSearch_mild _ _)
      | exact (s.dir_mild _).trans (State.dir_mild _ _)

theorem State.wordRead_mild (s : State) (w : DirWord) : s.Mild (s.wordRead w) := by
  unfold State.wordRead
  repeat' split
  all_goals
    first
      | exact .refl _
      | exact s.dir_mild _
      | exact s.probeComplete_mild _ _ _

theorem State.readyRises_mild (s : State) (w : DirWord) : s.Mild (s.readyRises w) := by
  unfold State.readyRises
  split
  · exact .refl s
  · dsimp only
    split
    · exact State.Mild.trans (s.dir_mild { s.dir with readyLine := true }) (State.wordRead_mild _ w)
    · exact s.dir_mild _

/-- A new speed monitor whose line and latch stand as its mode says keeps the lane sound. -/
theorem Lane.speed_sound {L : Lane} (h : L.Sound) (m : SpeedMonitor) (h1 : m.line = m.alertLevel)
    (h2 : m.latch = true → m.mode = .latch)
    (h3 : m.mode = .latch → m.crit = true → m.latch = true) : ({ L with speed := m } : Lane).Sound :=
  ⟨h.run, h.startTimer, h.drainTimer, h.stopped, h.track, h.gates, h.closed, h1, h2, h3⟩

/-- The monitor after a window end keeps the lane sound, whatever its qualification count. -/
theorem Lane.measure_sound {L : Lane} (h : L.Sound) (q : Nat) :
    ({ L with speed := { L.speed.alertAfter L.speed.measure with qualification := q } } : Lane).Sound := by
  refine Lane.speed_sound h _ ?_ ?_ ?_
  · simp only [SpeedMonitor.alertAfter, SpeedMonitor.alertLevel]
  · simp only [SpeedMonitor.alertAfter, SpeedMonitor.measure, Bool.or_eq_true, Bool.and_eq_true]
    exact fun a => a.elim h.latch (fun x => of_decide_eq_true x.1)
  · simp only [SpeedMonitor.alertAfter, SpeedMonitor.measure, Bool.or_eq_true, Bool.and_eq_true,
      Bool.not_eq_true']
    intro a b
    cases c : L.speed.crit
    · rw [c] at b; exact .inr ⟨decide_eq_true a, .inr ⟨rfl, b⟩⟩
    · exact .inl (h.crit a c)

theorem State.qualified_mild (s : State) (l : LaneId) : s.Mild (s.qualified l) := by
  unfold State.qualified
  split
  · rename_i e
    unfold State.enterLane
    rw [State.modLane_modLane]
    refine State.Mild.trans (s.modLane_mild l _ (fun h => ?_) (fun _ => by rw [e]; rfl)) (State.raise_mild _ _)
    exact Lane.running_sound h rfl rfl (fun x => by cases x)
      (fun x => by have := h.drainTimer x; rw [e] at this; cases this) (Nat.le_refl _) rfl rfl h.alert
      h.latch h.crit
  · exact .refl s

theorem State.windowEnd_mild (s : State) (l : LaneId) : s.Mild (s.windowEnd l) := by
  unfold State.windowEnd
  dsimp only
  have h1 := fun q ns => State.Mild.trans (s.modLane_mild l (fun L => { L with
    speed := { (s.lane l).speed.alertAfter (s.lane l).speed.measure with qualification := q } })
    (fun h => Lane.measure_sound h q) id) (State.raiseAll_mild _ ns)
  split
  · exact (h1 _ _).trans (State.qualified_mild _ l)
  · exact h1 _ _

/-! ### What a mild change keeps -/

/-- A mild change keeps the lanes sound. -/
theorem State.Mild.lanesSound {s t : State} (m : s.Mild t) (h : s.LanesSound) : t.LanesSound :=
  fun l => m.lanes l (h l)

/-- A released slot is in a state other than READY exactly if it was before. -/
theorem PlanSlot.Released.state_of {p q : PlanSlot} (h : p.Released q) {st : SlotState}
    (hr : st ≠ .ready) (hs : st ≠ .retiring) : q.state = st ↔ p.state = st := by
  rcases h.state with e | ⟨e, e'⟩
  · rw [e]
  · rw [e, e']; exact ⟨fun x => absurd x.symm hr, fun x => absurd x.symm hs⟩

theorem PlanSlot.Released.sound {p q : PlanSlot} (h : p.Released q) (s : p.Sound) : q.Sound where
  formats := by rw [h.formats]; exact s.formats
  formatsPtr := by rw [h.formats, h.formatsPtr]; exact s.formatsPtr
  ranges := by rw [h.ranges]; exact s.ranges
  rangesPtr := by rw [h.ranges, h.rangesPtr]; exact s.rangesPtr
  doctypes := by rw [h.doctypes]; exact s.doctypes
  doctypesPtr := by rw [h.doctypes, h.doctypesPtr]; exact s.doctypesPtr
  refs := fun u => by
    rcases h.state with e | ⟨-, e⟩
    · have := h.refs
      rw [s.refs (e ▸ u)] at this
      exact Nat.le_zero.1 this
    · rw [e] at u; cases u

/-- There is an ACTIVE slot exactly if one of the slots is ACTIVE. -/
theorem State.activeSlot_ne_none (s : State) : s.activeSlot ≠ none ↔ ∃ k, (s.slot k).state = .active := by
  unfold State.activeSlot
  constructor
  · intro h
    split at h
    · exact ⟨.slot0, by assumption⟩
    · split at h
      · exact ⟨.slot1, by assumption⟩
      · exact absurd rfl h
  · rintro ⟨k, e⟩
    cases k
    · rw [if_pos (show s.slot0.state = .active from e)]; simp
    · split
      · simp
      · rw [if_pos (show s.slot1.state = .active from e)]; simp

/-- A mild change that leaves the checker alone keeps the laws of the plan store. -/
theorem State.Mild.planLaws {s t : State} (m : s.Mild t) (hc : t.checker = s.checker) (h : s.PlanLaws) :
    t.PlanLaws where
  slots := fun k => (m.slots k).sound (h.slots k)
  oneActive := by
    have e := fun k => (m.slots k).state_of (st := .active) (by simp) (by simp)
    rintro ⟨a, b⟩
    exact h.oneActive ⟨(e .slot0).1 a, (e .slot1).1 b⟩
  retiring := fun k a => by
    refine ((m.slots (otherSlot k)).state_of (by simp) (by simp)).2 (h.retiring k ?_)
    rcases (m.slots k).state with e | ⟨-, e⟩
    · rw [← e, a]
    · rw [e] at a; cases a
  checker := fun k => by
    rw [hc, ← h.checker k]
    exact (m.slots k).state_of (by simp) (by simp)
  stamp := fun l a => by
    obtain ⟨k, e⟩ := s.activeSlot_ne_none.1 (h.stamp l (m.takes l a))
    exact t.activeSlot_ne_none.2 ⟨k, ((m.slots k).state_of (by simp) (by simp)).2 e⟩

end Sys2Proof.Machine
end

