-- ==== Sys2Proof/Tests/Slice0.lean ====
section
/-! SUPPORT. Tests on fixed values, their expected results taken from the worked sequences of spec/
(the section stands before each), and for every obligation with hypotheses a state and operands that
meet them. -/

namespace Sys2Proof.Tests

-- Many closed evaluations: elaborated one after another, so that the file compiles within few threads.
set_option Elab.async false

open Sys2Proof Sys2Proof.Machine

/-! ### Small states -/

/-- The state after an outcome, when it is a next state. -/
def stateOf : Host.Outcome State Fault Refusal → Option State
  | .next t => some t
  | _ => none

/-- A view of the state after a command. -/
def view {α : Type} (c : Instr) (s : State) (f : State → α) : Option α := (stateOf (exec c s)).map f

/-- The constants of lane 0 in 1.2.2 after step 9. -/
def constants0 : Constants :=
  { Constants.cold with
    gateCount := 8
    gates := Constants.cold.gates.set 0 (.cold 3100)
    headCount := 3
    headOffset := #v[600, 1200, 1900, 0]
    halfWindow := 24
    readClose := 2800
    lengthMin := 300 }

/-- A gate of lane 1 in 7.3.1. -/
def gate1 (d : Nat) : GateConstants := ⟨d, 6500, 160, 800⟩

/-- The constants of lane 1 in 7.3.1. -/
def constants1 : Constants :=
  { Constants.cold with
    gateCount := 6
    gates := #v[gate1 6000, gate1 7800, gate1 9600, ⟨11400, 15000, 160, 800⟩, ⟨13200, 6500, 900, 800⟩,
      gate1 15000, .cold 28000, .cold 32000, .cold 36000, .cold 40000, .cold 44000, .cold 48000]
    runoutDistance := 20000
    readClose := 2800
    speedFloor := 160 }

/-- The digits of a run of characters. -/
def digits (n k : Nat) : List Digit :=
  ((List.range k).map (fun i => (Fin.ofNat 10 (n / 10 ^ i)))).reverse

/-- The formats of 3.5. -/
def format0 : FormatEntry := ⟨0, [3, 1], 20, 3, 12, 15, 3, .mod10⟩
def format2 : FormatEntry := ⟨2, [0], 11, 2, 9, 0, 0, .mod11⟩

/-- A class entry that sends lane 0 to one bin and lane 1 to another. -/
def toBins (a b : Nat) : ClassEntry := ⟨true, ⟨a, none⟩, ⟨b, some 4⟩⟩

/-- Slot 1 as 4.4.1 leaves it, in a given state with a given count of references. -/
def plan (st : SlotState) (refs : Nat) : PlanSlot :=
  { PlanSlot.fresh st with
    refs := refs
    formats := [format0, format2]
    formatsPtr := 2
    ranges := [⟨100000000, 199999999, 12⟩, ⟨200000000, 452000000, 14⟩, ⟨452000001, 999999999, 23⟩]
    rangesPtr := 2
    classes := ((((Vector.replicate 64 ClassEntry.undefined).set 8 (toBins 1 1)).set 12 (toBins 2 2)).set 23
      (toBins 5 3)).set 31 (toBins 6 3)
    doctypes := [⟨214, 31, .strong⟩]
    doctypesPtr := 1
    settings := ⟨8, .builtIn, true, .fallback, 1208⟩ }

/-- The part after a cold reset. -/
def cold : State := State.reset

/-- Lane 0 in a state that takes letters, at a position, with a track. -/
def running0 (st : LaneState) (pos : Nat) (next : Nat) (track : List Piece) : Lane :=
  { Lane.cold false with
    constants := constants0
    state := st
    run := true
    pos := BitVec.ofNat 24 pos
    nextPiece := next
    track := track }

/-- Lane 1 in a state, at a position, with a track. -/
def running1 (st : LaneState) (pos : Nat) (track : List Piece) : Lane :=
  { Lane.cold false with
    constants := constants1
    state := st
    run := true
    pos := BitVec.ofNat 24 pos
    track := track
    speed := { SpeedMonitor.cold with figure := 250 } }

/-- Slot 1 ACTIVE with its plan, and the two lanes. -/
def part (l0 l1 : Lane) (refs : Nat) : State :=
  { cold with lane0 := l0, lane1 := l1, slot1 := plan .active refs }

/-- A record just opened at a lead, with the events of R26 on lane 0. -/
def entered (n lead : Nat) : Piece :=
  (running0 .running lead n []).newPiece .slot1 1208

/-- A record whose trail is set. -/
def read (n lead len : Nat) : Piece :=
  { entered n lead with
    trail := some (BitVec.ofNat 24 (lead + len))
    length := some len
    stage := .reading
    forcedTrailAt := none }

/-- A record of lane 1 routed at a gate of 7.3.1 with lead, trail, F and Rl. -/
def armed1 (n lead trail : Nat) (g : Gate) (f r : Nat) : Piece :=
  { read n lead (trail - lead) with
    stage := .decided
    readCloseAt := none
    lastChanceAt := none
    cls := some 23
    source := some .range
    route := .armed
    gate := some g
    openAt := some (BitVec.ofNat 24 f)
    releaseAt := some (BitVec.ofNat 24 r)
    fireAt := some (BitVec.ofNat 24 f)
    reason := some .cls
    window := some ⟨BitVec.ofNat 24 (lead + (constants1.gates[g.val]).distance),
      BitVec.ofNat 24 (trail + (constants1.gates[g.val]).distance + 800)⟩ }

/-- A record of lane 1 bound for run-out. -/
def runout1 (n lead trail : Nat) : Piece :=
  { armed1 n lead trail 2 0 0 with
    route := .runoutBound
    gate := none
    openAt := none
    releaseAt := none
    fireAt := none
    window := some ⟨BitVec.ofNat 24 (lead + 20000), BitVec.ofNat 24 (trail + 21000)⟩ }

/-- The records A, B and C of 8.8.1. -/
def pieceA : Piece := armed1 1 4000000 4000900 2 4009498 4010660
def pieceB : Piece := armed1 2 4001500 4002300 2 4010998 4012060
def pieceC : Piece := armed1 3 4003000 4003700 2 4012498 4013460

/-- A lane with bin 3 at a confirmed count and a miss count, under the limits of 8.8. -/
def bin3 (L : Lane) (confirmed miss : Nat) : Lane :=
  { L with bins := L.bins.set 2 ⟨confirmed, 20, 18, false, miss⟩ }

/-- The lookup engine at work on a request for an account. -/
def looking (s : State) (who : Requester) (account : Nat) (dt : Option Nat) (st : EngineStage)
    (r : Option (Nat × LookupSource)) : State :=
  { s with lookup := { s.lookup with engine := some ⟨⟨who, account, dt, .slot1, 0⟩, st, r, .clear⟩ } }

/-- The port probing over the directory of 5.8 for account 452,771,903. -/
def probing (low stop : Nat) (word0 : Option DirWord) : Directory :=
  { Directory.cold false false with
    base := 4096
    count := 10
    port := .probing
    search := some ⟨452771903, 4096, 10, 20, low, stop, word0⟩
    readLine := true
    address := some 4104 }

/-- The status and results of the response being sent. -/
def lastBody (s : State) : Option Bytes := s.link.tx.map (fun f => (f.drop 8).take (f.length - 10))

/-- The response frames waiting and the frame being sent, by status: the status of the last response
given. -/
def lastStatus (s : State) : Option Byte := s.link.tx.bind (fun f => f[8]?)

/-! ### Well-formedness: each check refuses an ill-formed command -/

theorem test_wf_tag : WellFormed.instr (.laneRun 65536 0) = false := by decide
theorem test_wf_byte : WellFormed.instr (.laneRun 1 256) = false := by decide
theorem test_wf_code : WellFormed.instr (.unknownRequest 1 0x10) = false ∧
    WellFormed.instr (.unknownRequest 1 0x7F) = true := by decide
theorem test_wf_piece : WellFormed.instr (.readClose .lane0 0) = false := by decide
theorem test_wf_half : WellFormed.instr (.hotRead 1 65536) = false := by decide
theorem test_wf_three : WellFormed.instr (.directorySet 1 16777216 0 1) = false := by decide
theorem test_wf_five : WellFormed.instr (.hotDelete 1 1099511627776) = false := by decide
theorem test_wf_optional : WellFormed.instr (.query 1 0 5 (some 65535)) = false := by decide
theorem test_wf_fits :
    WellFormed.instr (.loadDoctypes 1 0 none (List.replicate 74 ⟨0, 8, 1⟩)) = false := by decide
theorem test_wf_constantItem : WellFormed.instr (.constantsWrite 1 0 [⟨2, 1, 16777216⟩]) = false := by
  decide
theorem test_wf_speedItem : WellFormed.instr (.speedSet 1 0 [⟨2, 65536⟩]) = false := by decide
theorem test_wf_formatItem :
    WellFormed.instr (.loadFormats 1 0 none [⟨0, 256, 0, 0, 0, 0, 20, 1, 1, 0, 0, 1⟩]) = false := by decide
theorem test_wf_rangeItem : WellFormed.instr (.loadRanges 1 0 none [⟨0, 1099511627776, 8⟩]) = false := by
  decide
theorem test_wf_classItem : WellFormed.instr (.loadClasses 1 0 [⟨8, 1, 256, 0, 0, 0⟩]) = false := by decide
theorem test_wf_doctypeItem : WellFormed.instr (.loadDoctypes 1 0 none [⟨65536, 8, 1⟩]) = false := by
  decide
theorem test_wf_settingItem : WellFormed.instr (.loadSettings 1 0 [⟨5, 65536⟩]) = false := by decide
theorem test_wf_admits :
    WellFormed.instr (.query 65535 255 1099511627775 (some 65534)) = true ∧
      WellFormed.instr (.readClose .lane0 4294967295) = true := by decide

/-! ### Positions and transport (Chapters 1 and 2) -/

/-- 0.7: from 16,777,100 the position 50 lies 166 counts ahead. -/
theorem test_forward_distance : fwd 16777100#24 50#24 = 166 := by decide

/-- R3: the position wraps from 16,777,215 to 0. R174: the pulse count stops at 1,048,575. -/
theorem test_pulse_wraps :
    view (.encoderPulse .lane0) { cold with lane0 := { Lane.cold false with
      pos := 16777215#24, speed := { SpeedMonitor.cold with pulses := 1048575 } } }
      (fun t => (t.lane0.pos, t.lane0.speed.pulses)) = some (0#24, 1048575) := by decide +kernel

/-- 2.5, first row: record 41 opens with its events mod 16,777,216 and takes a reference. -/
theorem test_leading_edge_opens :
    view (.leadingEdge .lane0) (part (running0 .running 16776900 41 []) (Lane.cold false) 0) (fun t =>
      t.lane0.track.map (fun p => (p.number, p.forcedTrailAt, p.readCloseAt, p.lastChanceAt))) =
        some [(41, some 2084#24, some 2484#24, some 31484#24)] ∧
      view (.leadingEdge .lane0) (part (running0 .running 16776900 41 []) (Lane.cold false) 0)
        (fun t => (t.slot1.refs, t.lane0.nextPiece)) = some (1, 42) := by decide +kernel

/-- 2.5, second row: the trail at 704 gives length 1,020. -/
theorem test_trailing_edge_sets_trail :
    view (.trailingEdge .lane0) (part (running0 .running 704 42 [entered 41 16776900]) (Lane.cold false) 1)
      (fun t => t.lane0.track.map (fun p => (p.length, p.stage, p.forcedTrailAt, p.route))) =
    some [(some 1020, .reading, none, .unrouted)] := by decide +kernel

/-- 2.5, fourth row: 120 counts are a flutter, and its reference is released. -/
theorem test_trailing_edge_flutter :
    view (.trailingEdge .lane0)
      (part (running0 .running 1420 43 [read 41 16776900 1020, entered 42 1300]) (Lane.cold false) 2)
      (fun t => (t.lane0.track.map Piece.number, t.slot1.refs, t.lane0.counters.flutters)) =
    some ([41], 1, 1#16) := by decide +kernel

/-- 2.5, seventh row: the trail of 43 is forced at 4,300. -/
theorem test_forced_trail :
    view (.forcedTrail .lane0 43) (part (running0 .running 4300 44 [entered 43 1900]) (Lane.cold false) 1)
      (fun t => t.lane0.track.map (fun p => (p.trail, p.length, p.overlong, p.stage))) =
    some [(some 4300#24, some 2400, true, .reading)] := by decide +kernel

/-- 2.5, ninth row: read close of the overlong 43 gives class 7 and run-out, and releases the
reference. -/
theorem test_read_close_service :
    view (.readClose .lane0 43) (part (running0 .running 4700 44 [{ read 43 1900 2400 with overlong := true }])
      (Lane.cold false) 1)
      (fun t => (t.lane0.track.map (fun p => (p.cls, p.route, p.reason)), t.slot1.refs)) =
    some ([(some 7, .runoutBound, some .cls)], 0) := by decide +kernel

/-- 3.6 case (a) and 2.5, sixth row: the reads of 41 resolve to account 452,771,903 with doctype 214;
the queue takes the request, and the free engine is granted it. -/
theorem test_read_close_lookup :
    view (.readClose .lane0 41) (part (running0 .running 2484 44 [{ read 41 16776900 1020 with
        reports := #v[some ⟨0, some (digits 31000452771903214069 20)⟩,
          some ⟨0, some (digits 31000452771903214069 20)⟩,
          some ⟨0, some (digits 31000452771903214068 20)⟩, some ⟨0, none⟩] }]) (Lane.cold false) 1)
      (fun t => (t.lane0.track.map (fun p => (p.stage, p.lookup)), t.slot1.refs,
        t.lookup.engine.map (fun j => (j.request.account, j.request.doctype)))) =
    some ([(.deciding, .inProgress)], 1, some (452771903, some 214)) := by decide +kernel

/-- 6.8, last paragraph: the last chance of a queued record withdraws its request, and the
request before it stays. -/
theorem test_last_chance_withdraws :
    view (.lastChance .lane0 21) { part (running0 .running 31800 44 [{ read 21 0 1000 with
        stage := .deciding, lookup := .queued }]) (Lane.cold false) 1 with
      lookup := { LookupUnit.cold with
        queue := [⟨.query 5, 1, none, .slot1, 103⟩, ⟨.piece .lane0 21, 2, none, .slot1, 106⟩]
        passCount := 1
        engine := some ⟨⟨.query 4, 1, none, .slot1, 90⟩, .hot, none, .clear⟩ } }
      (fun t => (t.lane0.track.map (fun p => (p.lookup, p.stage, p.reason)),
        t.lookup.queue.map LookupRequest.arrival, t.slot1.refs)) =
    some ([(.withdrawn, .decided, some .lateFinal)], [103#16], 0) := by decide +kernel

/-! ### Codes (Chapter 3) -/

/-- 3.5.1 and 3.5.2: the computed checks 9, 6 and 3, and the failing remainder. -/
theorem test_check_digits :
    computedCheck .mod10 (digits 3100045277190321406 19) = some 9 ∧
      computedCheck .mod10 (digits 3100045277190321506 19) = some 6 ∧
      computedCheck .mod11 (digits 0452771903 10) = some 3 ∧
      computedCheck .mod11 (digits 0452771905 10) = some 10 := by decide +kernel

/-- The report slots of a case of 3.6. -/
def slots (a b c d : Option Report) : Vector (Option Report) 4 := #v[a, b, c, d]
/-- A GOOD report of a string. -/
def good (n k : Nat) : Option Report := some ⟨0, some (digits n k)⟩
/-- The strings A, B and C of 3.6. -/
def codeA : Option Report := good 31000452771903214069 20
def codeB : Option Report := good 31000452771903215066 20
def codeC : Option Report := good 04527719033 11

/-- 3.6, cases (b), (e), (f), (g) and (j). -/
theorem test_resolution_cases :
    readOutcome [format0, format2] (slots codeA codeB codeA none) =
        .resolved (digits 31000452771903214069 20) 0 true ∧
      readOutcome [format0, format2] (slots codeA codeC none none) = .multi ∧
      readOutcome [format0, format2] (slots (good 31000452771903214068 20)
        (good 52000452771903214069 20) (some ⟨0, none⟩) none) = .checkfail ∧
      readOutcome [format0, format2] (slots (good 52000452771903214069 20)
        (good 3100045277190321406 19) (some ⟨0, none⟩) none) = .noformat ∧
      outcomeKey [format0, format2]
        (readOutcome [format0, format2] (slots codeC codeC (some ⟨0, none⟩) none)) =
          some ⟨452771903, none⟩ := by decide +kernel

/-- 3.2: a stamp of 170 against an expected stamp of 184 lies 14 counts off, across the wrap. -/
theorem test_candidate_wraps :
    ((running0 .running 900 2 [entered 1 16776800]).candidate 600 170#24).map Piece.number = some 1 ∧
      (running0 .running 900 2 [entered 1 16776800]).candidate 600 159#24 = none := by decide +kernel

/-! ### Plan store (Chapter 4) -/

/-- 4.4.1, step 15: range 2 fails RANGE ORDER when position 1 ends at 460,000,000. Step 21: PASS. -/
theorem test_plan_checker :
    ({ plan .checking 0 with ranges := [⟨100000000, 199999999, 12⟩, ⟨200000000, 460000000, 12⟩,
        ⟨452000001, 999999999, 23⟩] } : PlanSlot).checkError = some ⟨.range, 2, .rangeOrder⟩ ∧
      ({ plan .checking 0 with ranges := [⟨100000000, 199999999, 12⟩], doctypes := [⟨214, 30, .strong⟩] } :
        PlanSlot).checkError = some ⟨.doctype, 0, .classUndefined⟩ ∧
      ({ plan .checking 0 with ranges := [⟨100000000, 199999999, 12⟩] } : PlanSlot).checkError = none ∧
      (plan .checking 0).checkMicroseconds = 22 := by decide +kernel

/-- 4.4.1, step 15: the failing check returns the slot to LOADING. -/
theorem test_check_completion :
    view .checkCompletion { cold with slot1 := plan .checking 0, checker := some ⟨.slot1, 22⟩ }
      (fun t => (t.slot1.state, t.checker)) = some (.loading, none) := by decide +kernel

/-- 4.3.1, steps 4, 6 and 7 on a slot with 2 formats and 3 ranges. -/
theorem test_load_tables :
    view (.loadFormats 1 1 none (List.replicate 7 ⟨0, 1, 0x30, 0, 0, 0, 20, 1, 1, 0, 0, 1⟩))
        { cold with slot1 := plan .loading 0 } lastStatus = some (some 0x07#8) ∧
      view (.loadRanges 1 1 (some 5) [⟨1, 2, 8⟩]) { cold with slot1 := plan .loading 0 } lastStatus =
        some (some 0x08#8) ∧
      view (.loadRanges 1 1 (some 1) [⟨200000000, 460000000, 14⟩]) { cold with slot1 := plan .loading 0 }
        (fun t => (t.slot1.ranges.map RangeEntry.high, t.slot1.rangesPtr)) =
          some ([199999999, 460000000, 999999999], 2) := by decide +kernel

/-- 4.3.1, steps 9 and 11, and a class of 4.4.1, step 19. -/
theorem test_load_rest :
    view (.loadDoctypes 1 1 (some 0) []) { cold with slot1 := plan .loading 0 }
        (fun t => (t.slot1.doctypes, t.slot1.doctypesPtr)) = some ([], 0) ∧
      view (.loadSettings 1 1 [⟨3, 2⟩, ⟨4, 1⟩, ⟨5, 1208⟩])
        { cold with slot1 := { plan .loading 0 with settings := Settings.initial } }
        (fun t => t.slot1.settings) = some ⟨8, .builtIn, true, .fallback, 1208⟩ ∧
      view (.loadClasses 1 1 [⟨30, 1, 2, 255, 3, 4⟩]) { cold with slot1 := plan .loading 0 }
        (fun t => t.slot1.classEntry 30) = some (toBins 2 3) := by decide +kernel

/-- R71, R78 and R84: PLAN OPEN of an EMPTY slot, PLAN CHECK, and a switch that retires the old slot
for its reference. -/
theorem test_plan_states :
    view (.planOpen 1 0) cold (fun t => t.slot0.state) = some .loading ∧
      view (.planCheck 1 1) { cold with slot1 := plan .loading 0 }
        (fun t => (t.slot1.state, t.checker)) = some (.checking, some ⟨.slot1, 22⟩) ∧
      view (.planSwitch 1 0) { cold with slot0 := plan .ready 0, slot1 := plan .active 1 }
        (fun t => (t.slot0.state, t.slot1.state)) = some (.active, .retiring) := by decide +kernel

/-! ### Hot list, directory and lookups (Chapters 5 and 6) -/

/-- The hot list of 5.1.1. -/
def hotStart : List HotEntry := [⟨210556001, 40⟩, ⟨452771903, 41⟩, ⟨880000000005, 42⟩]

/-- 5.1.1, steps 1, 2, 6 and 4. -/
theorem test_hot_list :
    view (.hotAdd 1 305000000 43) { cold with hot := hotStart } State.hot =
        some [⟨210556001, 40⟩, ⟨305000000, 43⟩, ⟨452771903, 41⟩, ⟨880000000005, 42⟩] ∧
      view (.hotAdd 1 452771903 44) { cold with hot := hotStart } State.hot =
        some [⟨210556001, 40⟩, ⟨452771903, 44⟩, ⟨880000000005, 42⟩] ∧
      view (.hotAdd 1 999999999999 7) { cold with hot := hotStart } lastBody =
        some (some [0x0B#8, 0x00#8, 0x03#8]) ∧
      view (.hotDelete 1 5) { cold with hot := hotStart } lastBody =
        some (some [0x0A#8, 0x00#8, 0x03#8]) ∧
      view (.hotDelete 1 452771903) { cold with hot := hotStart } State.hot =
        some [⟨210556001, 40⟩, ⟨880000000005, 42⟩] := by decide +kernel

/-- 5.2: the words of account 880,000,000,005 with class 9, bits 31 to 14 of word 1 not read. -/
theorem test_directory_entry :
    entryAccount 3826671621#32 (2508#32 ||| 0xFFFFC000#32) = 880000000005 ∧
      entryClass (2508#32 ||| 0xFFFFC000#32) = 9 := by decide +kernel

/-- 5.8.1, probe 1: the key lies below entry 4, and the next probe is entry 1 at word 4,098. -/
theorem test_probe_goes_on :
    view (.readyAsserted 0#32) { cold with dir := probing 0 10 (some 452771950#32) }
      (fun t => (t.dir.search.map (fun q => (q.low, q.stop)), t.dir.address, t.dir.readLine)) =
    some (some (0, 4), some 4098#20, true) := by decide +kernel

/-- 5.8.1, probe 4: the account is found with class 31 and the port returns to IDLE. -/
theorem test_probe_finds :
    view (.readyAsserted 7936#32) { looking (part (Lane.cold false) (Lane.cold false) 1) (.query 9)
        452771903 (some 214) .directory none with dir := probing 3 4 (some 452771903#32) }
      (fun t => (t.dir.port, t.lookup.engine.map (fun j => (j.stage, j.result)))) =
    some (.idle, some (.doctype, some (31, .directory))) := by decide +kernel

/-- 5.8.2: HOLD during a search turns it to YIELDING, and in IDLE it is granted at once. -/
theorem test_hold :
    view .holdAsserted { cold with dir := probing 0 10 none } (fun t => t.dir.port) = some .yielding ∧
      view .holdAsserted cold (fun t => (t.dir.port, t.dir.holdAck)) = some (.held, true) ∧
      view .holdDeasserted { cold with dir := { Directory.cold true false with
        port := .held, holdAck := true, wanted := true } }
        (fun t => (t.dir.port, t.dir.holdAck, t.dir.wanted)) = some (.idle, false, false) := by
  decide +kernel

/-- 5.8.3, search C: the second timeout sets the failed flag. -/
theorem test_read_timeout :
    view .readTimeout { cold with dir := { probing 0 10 none with consecutive := 1, timeouts := 2 } }
      (fun t => (t.dir.port, t.dir.consecutive, t.dir.timeouts, t.dir.failed)) =
    some (.idle, 2, 3, true) := by decide +kernel

/-- 6.7: the HELD port makes the lookup go on to RANGE, and RANGE finds class 23. -/
theorem test_stages :
    view .hotStageComplete { looking (part (Lane.cold false) (Lane.cold false) 1) (.query 9) 452771903
        (some 214) .hot none with
        hot := [⟨452771903, 44⟩]
        dir := { Directory.cold true false with count := 10, port := .held, holdAck := true } }
      (fun t => (t.lookup.engine.map (fun j => (j.stage, j.flags)), t.dir.wanted)) =
        some (some (.range, ⟨true, false, true⟩), true) ∧
      view .rangeStageComplete (looking (part (Lane.cold false) (Lane.cold false) 1) (.query 9) 452771903
        (some 214) .range none) (fun t => t.lookup.engine.map (fun j => (j.stage, j.result))) =
        some (some (.doctype, some (23, .range))) := by decide +kernel

/-- 6.7: doctype 214 is STRONG for class 31, and piece 90 is decided with it. -/
theorem test_doctype_delivers :
    view .doctypeStageComplete (looking (part (running0 .running 3000 91 [{ read 90 100 1000 with
        stage := .deciding, lookup := .inProgress }]) (Lane.cold false) 1) (.piece .lane0 90) 452771903
        (some 214) .doctype (some (23, .range)))
      (fun t => (t.lane0.track.map (fun p => (p.cls, p.source, p.lookup, p.gate)))) =
    some [(some 31, some .doctype, .done, some 5)] := by decide +kernel

/-- R122: an account no range covers leads to DEFAULT, which gives the default class. -/
theorem test_default_stage :
    view .defaultStageComplete (looking (part (Lane.cold false) (Lane.cold false) 1) (.query 9) 5 none
      .default none) (fun t => t.lookup.engine.map (fun j => (j.stage, j.result))) =
    some (some (.doctype, some (8, .default))) := by decide +kernel

/-- The queue of 6.8. -/
def queue68 : List LookupRequest :=
  [⟨.piece .lane1 20, 1, none, .slot1, 101⟩, ⟨.piece .lane0 300, 1, none, .slot1, 102⟩,
    ⟨.query 5, 1, none, .slot1, 103⟩, ⟨.piece .lane0 301, 1, none, .slot1, 104⟩]

/-- 6.8, steps 1 and 4: priority grants 102 and passes 101 over; at the age limit 101 is granted. -/
theorem test_arbiter :
    (fun t : State => (t.lookup.engine.map (fun j => j.request.arrival), t.lookup.passCount))
        ({ cold with lookup := ⟨queue68, 105, 3, 1, 2, 0, none⟩ } : State).grant = (some 102#16, 1) ∧
      (fun t : State => (t.lookup.engine.map (fun j => j.request.arrival), t.lookup.passCount))
        ({ cold with lookup := ⟨queue68, 105, 3, 1, 2, 2, none⟩ } : State).grant = (some 101#16, 0) := by
  decide +kernel

/-- R115 and R118: a QUERY of an EMPTY slot is NOT READY, one of an ACTIVE slot is granted with a place
reserved, and a priority above 3 is BAD VALUE. -/
theorem test_query :
    view (.query 1 0 5 none) cold lastStatus = some (some 0x06#8) ∧
      view (.query 1 1 5 none) (part (Lane.cold false) (Lane.cold false) 0)
        (fun t => (t.link.reserved, t.slot1.refs, t.lookup.engine.isSome)) = some (1, 1, true) ∧
      view (.arbiterSet 1 4 0 0) cold lastStatus = some (some 0x0B#8) := by decide +kernel

/-- R101 at its ends: the largest extent is taken, one word more is BAD VALUE. -/
theorem test_directory_set :
    view (.directorySet 1 524288 262144 255) cold (fun t => (t.dir.base, t.dir.count)) =
        some (524288, 262144) ∧
      view (.directorySet 1 524290 262144 255) cold lastStatus = some (some 0x0B#8) := by decide +kernel

/-! ### Routing, gates and bins (Chapters 7 and 8) -/

/-- 7.3.1: the lead counts 102, 65, 122, 235 and 6,250. -/
theorem test_lead_counts :
    leadCounts 6500 250 = 102 ∧ leadCounts 6500 160 = 65 ∧ leadCounts 6500 300 = 122 ∧
      leadCounts 15000 250 = 235 ∧ leadCounts 20000 5000 = 6250 := by decide

/-- 7.3.1: F, Rl and the window of the record at bin 3, armed at 1,009,297 and LATE at 1,009,298. -/
theorem test_arming :
    (fun p : Piece => (p.openAt, p.releaseAt, p.window, p.reason)) ((running1 .running 1009297 []).routePiece
        ⟨3, none⟩ (read 1 1000000 920)) =
        (some 1009498#24, some 1010680#24, some ⟨1009600#24, 1011320#24⟩, some .cls) ∧
      (fun p : Piece => (p.window, p.reason)) ((running1 .running 1009298 []).routePiece ⟨3, none⟩
        (read 1 1000000 920)) = (some ⟨1020000#24, 1021920#24⟩, some .late) := by decide +kernel

/-- 8.8.2: E fires at 5,009,498. R145: its release drops the output with the last hold. -/
theorem test_fire_release :
    view (.fireEvent .lane1 1) { cold with
        lane1 := running1 .running 5009498 [armed1 1 5000000 5000800 2 5009498 5010560] }
        (fun t => (t.lane1.track.map Piece.route, t.lane1.gateOut[2])) = some ([.fired], true) ∧
      view (.releaseEvent .lane1 2 1) { cold with lane1 := { running1 .running 5010560 [] with
        holds := (Lane.cold false).holds.set 2 [⟨.lane1, 1, 5009498, 5010560⟩]
        gateOut := (Lane.cold false).gateOut.set 2 true } }
        (fun t => (t.lane1.holds[2], t.lane1.gateOut[2])) = some ([], false) := by decide +kernel

/-- 8.8.1, fourth and fifth rows: A is matched, and the next arrival is a stray. -/
theorem test_sensor_arrival :
    view (.sensorArrival .lane1 2) { cold with
        lane1 := bin3 (running1 .running 4009900 [pieceA, pieceB, pieceC]) 17 0 }
        (fun t => (t.lane1.track.map Piece.number, t.lane1.bins[2].confirmed, t.lane1.binState 2)) =
        some ([2, 3], 18, .full) ∧
      view (.sensorArrival .lane1 2) { cold with
        lane1 := bin3 (running1 .running 4010800 [pieceB, pieceC]) 18 0 }
        (fun t => (t.lane1.track.map Piece.number, t.lane1.bins[2].confirmed,
          t.lane1.counters.binStrays)) = some ([2, 3], 19, 1#16) := by decide +kernel

/-- 8.8.1, sixth row: B's window closes and the miss count is 1. 8.8.2: the second miss takes gate 3
out of service, and H goes to run-out with reason GATE OUT. -/
theorem test_window_close :
    view (.windowClose .lane1 2) { cold with
        lane1 := bin3 (running1 .running 4012700 [pieceB, pieceC]) 19 0 }
        (fun t => (t.lane1.track.map Piece.number, t.lane1.bins[2].miss, t.lane1.binState 2)) =
        some ([3], 1, .full) ∧
      view (.windowClose .lane1 2) { cold with
        lane1 := bin3 (running1 .running 5013100 [armed1 2 5002000 5002700 2 5011498 5012460,
          armed1 3 5004200 5005000 2 5013698 5014760]) 0 1 }
        (fun t => t.lane1.track.map (fun p => (p.number, p.reason, p.window))) =
        some [(3, some .gateOut, some ⟨5024200#24, 5026000#24⟩)] := by decide +kernel

/-- 8.8.2: H arrives at run-out at 5,024,500; without the edge it is LOST, and the third loss in a row
faults the lane with JAM. -/
theorem test_runout :
    view (.runoutLeadingEdge .lane1) { cold with
        lane1 := { running1 .running 5024500 [runout1 3 5004200 5005000] with lostCount := 2 } }
        (fun t => (t.lane1.track.length, t.lane1.runoutConfirmed, t.lane1.lostCount)) = some (0, 1, 0) ∧
      view (.runoutWindowClose .lane1 3) { cold with
        lane1 := { running1 .running 5026000 [runout1 3 5004200 5005000] with lostCount := 2 } }
        (fun t => (t.lane1.track.length, t.lane1.lostCount, t.lane1.state, t.lane1.lastCause)) =
        some (0, 3, .faulted, some .jam) := by decide +kernel

/-- 8.8.1, BIN SWAP; R156 at its ends; 8.8.2, GATE RESTORE. -/
theorem test_bin_requests :
    view (.binSwap 1 1 3) { cold with lane1 := bin3 (running1 .running 0 []) 20 0 }
        (fun t => (t.lane1.bins[2].confirmed, t.lane1.binState 2)) = some (0, .opened) ∧
      view (.binLimits 1 1 12 9999 9999) cold (fun t => t.lane1.bins[11].capacity) = some 9999 ∧
      view (.binLimits 1 1 13 20 18) cold lastStatus = some (some 0x0B#8) ∧
      view (.gateRestore 1 1 3) { cold with lane1 := { Lane.cold false with
        bins := (Lane.cold false).bins.set 2 ⟨0, 20, 18, true, 2⟩ } }
        (fun t => (t.lane1.binState 2, t.lane1.bins[2].miss)) = some (.opened, 0) := by decide +kernel

/-! ### Lanes, timers and speed (Chapters 1 and 9) -/

/-- 1.2.2, steps 3 and 6: READ CLOSE fails condition 7, then GATE DISTANCE fails at gate 5. -/
theorem test_consistency :
    ({ constants0 with readClose := 3000 } : Constants).inconsistency = some ⟨7, 11, none⟩ ∧
      ({ constants0 with gates := constants0.gates.set 4 (.cold 16000) } : Constants).inconsistency =
        some ⟨2, 2, some 5⟩ ∧
      constants0.inconsistency = none := by decide +kernel

/-- 1.2.2, steps 7 and 8: one item out of range refuses the whole request. -/
theorem test_constants_write :
    view (.constantsWrite 1 0 [⟨2, 5, 20000⟩, ⟨3, 3, 25000⟩]) cold
        (fun t => (t.lane0.constants == Constants.cold, lastBody t)) =
          some (true, some [0x0B#8, 0x03#8, 0x00#8, 0x03#8]) ∧
      view (.constantsWrite 1 0 [⟨2, 5, 20001⟩]) cold (fun t => t.lane0.constants.gates[4].distance) =
        some 20001 := by decide +kernel

/-- 1.2.2, steps 6 and 9: LANE RUN on a STOPPED lane with a slot ACTIVE. -/
theorem test_lane_run :
    view (.laneRun 1 0) (part { Lane.cold false with constants := constants0 } (Lane.cold false) 0)
        (fun t => (t.lane0.state, t.lane0.run, t.lane0.startTimer)) = some (.starting, true, true) ∧
      view (.laneRun 1 0) (part (Lane.cold false) (Lane.cold false) 0) lastStatus =
        some (some 0x11#8) := by decide +kernel

/-- R13 to R18: a stop with an empty track ends the drain at once; an abort faults and a clear
abandons. -/
theorem test_lane_requests :
    view (.laneStop 1 0) { cold with lane0 := running0 .running 0 1 [] } (fun t => t.lane0.state) =
        some .stopped ∧
      view (.laneStop 1 0) { cold with lane0 := running0 .running 0 1 [read 1 0 1000] }
        (fun t => (t.lane0.state, t.lane0.drainTimer)) = some (.draining, true) ∧
      view (.laneAbort 1 0) { cold with lane0 := running0 .running 0 1 [] }
        (fun t => (t.lane0.state, t.lane0.run, t.lane0.lastCause)) = some (.faulted, false, some .abort) ∧
      view (.laneClear 1 0) { cold with
        lane0 := { running0 .faulted 0 3 [read 1 0 1000, read 2 5000 1000] with run := false } }
        (fun t => (t.lane0.state, t.lane0.track.length, t.link.dispositions.length)) =
        some (.stopped, 0, 2) := by decide +kernel

/-- R12 and R14: the timers' expiries fault the lane with their causes. -/
theorem test_timers :
    view (.startTimeout .lane0) { cold with lane0 := { running0 .starting 0 1 [] with startTimer := true } }
        (fun t => (t.lane0.state, t.lane0.lastCause)) = some (.faulted, some .startTimeout) ∧
      view (.drainTimeout .lane0) { cold with
        lane0 := { running0 .draining 0 1 [read 1 0 1000] with drainTimer := true } }
        (fun t => (t.lane0.state, t.lane0.lastCause, t.lane0.track.length)) =
        some (.faulted, some .drainTimeout, 1) := by decide +kernel

/-- A lane of 9.8 with the LOW flag as given and a window of pulses. -/
def lane98 (low : Bool) (pulses : Nat) : Lane :=
  { running0 .running 0 1 [] with speed := { SpeedMonitor.cold with
    lowLimit := 200, hysteresis := 16, low := low, line := low, pulses := pulses } }

/-- 9.8, window ends 2, 3 and 4. -/
theorem test_window_end_low :
    view (.windowEnd .lane0) { cold with lane0 := lane98 false 195 }
        (fun t => (t.lane0.speed.figure, t.lane0.speed.low, t.lane0.speed.line)) = some (195, true, true) ∧
      view (.windowEnd .lane0) { cold with lane0 := lane98 true 210 }
        (fun t => (t.lane0.speed.low, t.lane0.speed.line)) = some (true, true) ∧
      view (.windowEnd .lane0) { cold with lane0 := lane98 true 216 }
        (fun t => (t.lane0.speed.low, t.lane0.speed.line)) = some (false, false) := by decide +kernel

/-- The monitor of 9.9. -/
def monitor99 (high crit latch : Bool) (pulses : Nat) : SpeedMonitor :=
  { SpeedMonitor.cold with
    window := 8
    nextWindow := 8
    highLimit := 300
    critLimit := 400
    hysteresis := 20
    mode := .latch
    high := high
    crit := crit
    latch := latch
    line := latch
    pulses := pulses }

/-- 9.9, steps 3 and 5, 4 and 7. -/
theorem test_crit_in_latch_mode :
    view (.windowEnd .lane1) { cold with lane1 := { Lane.cold false with speed := monitor99 true false true 205 } }
        (fun t => (t.lane1.speed.figure, t.lane1.speed.crit)) = some (410, true) ∧
      view (.windowEnd .lane1) { cold with lane1 := { Lane.cold false with speed := monitor99 true true true 195 } }
        (fun t => (t.lane1.speed.figure, t.lane1.speed.crit)) = some (390, true) ∧
      view (.alertClear 1 1) { cold with lane1 := { Lane.cold false with speed := monitor99 true true true 0 } }
        (fun t => (t.lane1.speed.latch, t.lane1.speed.line)) = some (true, true) ∧
      view (.alertClear 1 1) { cold with lane1 := { Lane.cold false with speed := monitor99 true false true 0 } }
        (fun t => (t.lane1.speed.latch, t.lane1.speed.line)) = some (false, false) := by decide +kernel

/-- 9.9, step 9 and its closing note. R12: the second good window end qualifies a STARTING lane. -/
theorem test_speed_set_and_qualification :
    view (.speedSet 1 1 [⟨4, 450⟩]) { cold with lane1 := { Lane.cold false with
        lock := true, speed := monitor99 false false false 0 } } lastStatus = some (some 0x0E#8) ∧
      view (.speedSet 1 1 [⟨3, 350⟩]) { cold with lane1 := { Lane.cold false with
        lock := true, speed := monitor99 false false false 0 } } (fun t => t.lane1.speed.highLimit) =
        some 350 ∧
      view (.windowEnd .lane0) { cold with lane0 := { running0 .starting 0 1 [] with
        startTimer := true, speed := { SpeedMonitor.cold with qualification := 1 } } }
        (fun t => (t.lane0.state, t.lane0.startTimer)) = some (.running, false) := by decide +kernel

/-! ### Sort link and resets (Chapter 10) -/

/-- The bytes of 10.9.1: LANE STATUS of lane 1 with tag 0207h, and their CRC. -/
def statusBody : Bytes := [0x21, 0x02, 0x07, 0x14, 0x01]

/-- 10.9.1: the frame is 11 bytes long and takes 55 µs. The request is taken in the event of its last
byte, and the response leaves at once. -/
theorem test_request_frame :
    (frame statusBody).length = 11 ∧ frameMicroseconds (frame statusBody) = 55 ∧
      view (.frameReceived (crc16 (crcCover statusBody) |>.extractLsb' 0 8)) { cold with
        link := { Link.cold with
          rx := .check 5 statusBody (some (crc16 (crcCover statusBody) |>.extractLsb' 8 8)) } }
        (fun t => (t.link.rx, t.link.buffer.length, t.link.responses.length,
          t.link.tx.map (fun f => (f.drop 4).take 5))) =
        some (.hunt, 0, 0, some [0x41, 0x02, 0x07, 0x14, 0x00]) := by decide +kernel

/-- R189: A5h, 5Ah, then the two length bytes; a length of 301 drops the frame; a gap abandons it. -/
theorem test_receiver :
    view (.byteReceived 0xA5) cold (fun t => t.link.rx) = some .sync ∧
      view (.byteReceived 0x5A) { cold with link := { Link.cold with rx := .sync } } (fun t => t.link.rx) =
        some (.length none) ∧
      view (.byteReceived 0x2C) { cold with link := { Link.cold with rx := .length (some 0x01) } }
        (fun t => t.link.rx) = some (.body 300 []) ∧
      view (.lengthError 0x2D) { cold with link := { Link.cold with rx := .length (some 0x01) } }
        (fun t => (t.link.rx, t.link.counters.lengthErrors)) = some (.hunt, 1#16) ∧
      view .gapAbandon { cold with link := { Link.cold with rx := .sync } }
        (fun t => (t.link.rx, t.link.counters.gapAbandons)) = some (.hunt, 1#16) := by decide +kernel

/-- 10.7.1, step 4: the oldest notice goes out with the lost count, which becomes 0. -/
theorem test_frame_sent :
    view .frameSent { cold with link := { Link.cold with
        tx := some [], notices := [.gateOut .lane1 2], lostNotices := 1 } }
      (fun t => (t.link.tx.map (fun f => (f.drop 4).take 5), t.link.notices, t.link.lostNotices)) =
    some (some [0x51, 0x04, 0x01, 0x01, 0x03], [], 0) := by decide +kernel

/-- 10.7.1, step 1: the disposition beyond 64 is discarded and counted. -/
theorem test_disposition_discard :
    (fun t : State => (t.link.dispositions.length, t.link.counters.dispositionDiscards))
      (({ cold with link := { Link.cold with
        dispositions := List.replicate 64 (Disposition.of .lane0 pieceA .lost) } } : State).finalize .lane0
          pieceB .abandoned) = (64, 1#16) := by decide +kernel

/-- R194 and R202: an unknown request, and the cold start flag cleared by DEVICE STATUS. -/
theorem test_device_requests :
    view (.unknownRequest 1 0x7F) cold lastBody = some (some [0x0D#8]) ∧
      view (.unknownRequest 1 0x10) cold lastBody = some (some [0x0C#8]) ∧
      view (.deviceStatus 1) cold (fun t => t.link.coldStart) = some false ∧
      view (.countersRead 1 1) { cold with link := { Link.cold with
        counters := { DeviceCounters.zero with crcErrors := 7 } } } (fun t => t.link.counters.crcErrors) =
        some 0#16 ∧
      view (.countersRead 1 2) cold lastStatus = some (some 0x0B#8) := by decide +kernel

/-- R203 and R204: the warm reset empties the track and keeps the hot list; the cold reset empties both
and its release runs the part. -/
theorem test_resets :
    view (.deviceReset 1) { cold with lane0 := running0 .running 0 3 [read 1 0 1000], hot := hotStart }
        (fun t => (t.lane0.state, t.lane0.track, t.hot, t.lane0.nextPiece)) =
        some (.stopped, [], hotStart, 3) ∧
      view .coldReset { cold with lane0 := running0 .running 0 3 [read 1 0 1000], hot := hotStart }
        (fun t => (t.lane0 == Lane.cold false, t.hot, t.resetLine)) = some (true, [], true) ∧
      view .resetRelease { cold with resetLine := true, dir := Directory.cold true false }
        (fun t => (t.resetLine, t.dir.port)) = some (false, .held) := by decide +kernel

/-- R9 and R41: MACHINE LOCK sets the lock; TRACK READ beyond the track is BAD INDEX. -/
theorem test_lock_and_track_read :
    view (.machineLock 1 0) cold (fun t => t.lane0.lock) = some true ∧
      view (.trackRead 1 0 0) cold lastStatus = some (some 0x08#8) := by decide +kernel

/-- No word spells a command: the rows of the table give no bits. -/
theorem test_no_word_spells_a_command : decodeTableWord 32 0xA55A0005 = none := by decide

/-! ### Witnesses: what the obligations' hypotheses hold of -/

/-- The part with lane 0 in a state, at position 5,000, with a track. -/
def inState (st : LaneState) (track : List Piece) : State :=
  part { running0 st 5000 44 track with run := st.runs } (Lane.cold false) track.length

/-- A part whose link is as given. -/
def linked (f : Link → Link) : State := { cold with link := f Link.cold }

theorem witness_StepTakesFrontCommand :
    ({ cold with pending := [.hotClear 1, .laneRun 2 0] } : State).pending = [.hotClear 1, .laneRun 2 0] ∧
      cold.pending = [] := by decide

/-- A response, a notice and a disposition. -/
def aResponse : Response := ⟨1, 0x10, .done, []⟩
def aNotice : Notice := .gateOut .lane1 2
def aDisposition : Disposition := Disposition.of .lane0 pieceA .lost

theorem witness_QueuesFillAndDrain :
    (linked (fun k => { k with tx := some [] })).link.tx.isSome = true ∧
      (linked (fun k => { k with responses := [aResponse] })).link.tx = none ∧
      (linked (fun k => { k with notices := [aNotice] })).link.responses = [] ∧
      (linked (fun k => { k with dispositions := [aDisposition] })).link.notices = [] ∧
      (linked (fun k => { k with notices := List.replicate 15 aNotice })).link.notices.length < 16 ∧
      16 ≤ (linked (fun k => { k with notices := List.replicate 16 aNotice })).link.notices.length ∧
      (linked (fun k => { k with
        dispositions := List.replicate 63 aDisposition })).link.dispositions.length < 64 ∧
      64 ≤ (linked (fun k => { k with
        dispositions := List.replicate 64 aDisposition })).link.dispositions.length := by decide +kernel

theorem witness_QueuesFillAndDrain_requests :
    4 ≤ (linked (fun k => { k with
        buffer := List.replicate 4 ⟨1, .hotClear⟩ })).link.buffer.length ∧
      (fun s : State => s.link.buffer.length < 4 ∧ 16 ≤ s.link.responses.length + s.link.reserved)
        (linked (fun k => { k with
          buffer := List.replicate 3 ⟨1, .hotClear⟩, responses := List.replicate 16 aResponse })) ∧
      (fun s : State => s.link.buffer = [] ∧ s.link.responses.length + s.link.reserved < 16)
        (linked (fun k => { k with responses := List.replicate 15 aResponse })) ∧
      (fun s : State => s.link.tx = none ∧ s.link.buffer = [⟨1, .hotClear⟩] ∧
          s.link.responses = aResponse :: List.replicate 14 aResponse ∧
          s.link.responses.length + s.link.reserved = 16)
        (linked (fun k => { k with
          buffer := [⟨1, .hotClear⟩], responses := List.replicate 15 aResponse, reserved := 1 })) := by
  refine ⟨?_, ?_, ?_, ?_⟩ <;> decide +kernel

theorem witness_LinkFrameLayouts :
    ReadOutcome.noread = .noread ∨ ReadOutcome.noread = .multi ∨ ReadOutcome.noread = .checkfail ∨
      ReadOutcome.noread = .noformat := Or.inl rfl

theorem witness_ResetInput :
    ({ cold with resetLine := true } : State).resetLine = true ∧ cold.resetLine = false ∧
      Instr.leadingEdge .lane0 ≠ .coldReset ∧ Instr.leadingEdge .lane0 ≠ .resetRelease := by decide

/-- A part that takes DEVICE RESET at once, and one where it waits, with one and with three requests
behind it, for a response place that FRAME SENT frees. -/
theorem witness_DeviceResetIsWarm :
    (inState .running [read 43 1900 2400]).TakesAtOnce ∧ cold.TakesAtOnce ∧
      ∀ n ∈ [1, 3], (fun s : State => s.resetLine = false ∧ s.link.tx.isSome = true ∧
          s.link.responses = aResponse :: List.replicate 14 aResponse ∧
          s.link.responses.length + s.link.reserved = 16 ∧
          s.link.buffer = ⟨1, .deviceReset⟩ :: List.replicate n ⟨2, .hotClear⟩)
        (linked (fun k => { k with
          tx := some []
          responses := List.replicate 15 aResponse
          reserved := 1
          buffer := ⟨1, .deviceReset⟩ :: List.replicate n ⟨2, .hotClear⟩ })) := by
  unfold State.TakesAtOnce; decide +kernel

theorem witness_RefusalChangesNothing :
    (cold.perform 1 (.laneRun 0)).link.responses = cold.link.responses ++ [⟨1, 0x10, .noPlan, []⟩] ∧
      (cold.perform 1 (.hotDelete 5)).link.responses = cold.link.responses ++ [⟨1, 0x41, .notFound, u16 0⟩] ∧
      Status.noPlan ≠ .done ∧ Status.noPlan ≠ .replaced := by decide +kernel

theorem witness_MalformedRequestsRefused :
    cold.TakesAtOnce ∧ 2 ≤ 2 ∧ 2 ≤ 255 ∧ 0x7F ∉ WellFormed.requestCodes ∧
      0x10 ∈ WellFormed.requestCodes := by
  unfold State.TakesAtOnce; decide +kernel

/-- Codes in and out of the table; parameters one byte short, one long, without the count byte, and
with an item too few; items at the ends of their fields. -/
theorem witness_RequestParametersParsed :
    0x00 ∉ WellFormed.requestCodes ∧ 0x73 ∉ WellFormed.requestCodes ∧
      ([0, 0] : Bytes).length ≠ 3 ∧ ([0, 0, 0, 0] : Bytes).length ≠ 3 ∧
      ([0, 0, 0] : Bytes).length ≤ 3 ∧
      ([0, 0, 0, 1] : Bytes) = [0, 0, 0] ++ 1 :: [] ∧ ([] : Bytes).length ≠ 12 * (1 : Byte).toNat ∧
      (List.replicate 255 (⟨19, 255, 16777215⟩ : ConstantItem)).length < 256 ∧
      WellFormed.constantItem ⟨255, 255, 16777215⟩ = true ∧
      WellFormed.formatItem ⟨255, 255, 0xFF, 0, 0, 0, 255, 255, 255, 255, 255, 255⟩ = true ∧
      WellFormed.rangeItem ⟨1099511627775, 0, 255⟩ = true ∧
      WellFormed.classItem ⟨255, 255, 255, 255, 255, 255⟩ = true ∧
      WellFormed.doctypeItem ⟨65535, 255, 255⟩ = true ∧ WellFormed.settingItem ⟨255, 65535⟩ = true ∧
      WellFormed.speedItem ⟨255, 65535⟩ = true := by decide +kernel

/-- R198: a LOAD DOCTYPES with no start and one item, and a QUERY with no doctype. -/
theorem test_parse_request :
    parseRequest 0x34 [0x01, 0xFF, 0xFF, 0x01, 0x00, 0xD6, 0x1F, 0x02] =
        .loadDoctypes 1 none [⟨214, 31, 2⟩] ∧
      parseRequest 0x50 [0x01, 0x00, 0x1A, 0xFC, 0xC0, 0x3F, 0xFF, 0xFF] =
        .query 1 452771903 none ∧
      parseRequest 0x34 [0x01, 0xFF, 0xFF, 0x02, 0x00, 0xD6, 0x1F, 0x02] = .badLength 0x34 := by
  decide +kernel

theorem witness_PositionsAndPulses : cold.resetLine = false := by decide

/-- Each lane state, with a slot ACTIVE and with none; the constants consistent and not. -/
theorem witness_LaneRunAndStopByState :
    (∀ st : LaneState, st = .starting ∨ st = .running ∨ st = .draining ∨ st = .faulted ∨ st = .stopped →
      (inState st []).TakesAtOnce ∧ ((inState st []).lane .lane0).state = st) ∧
      laneOf 0 = some .lane0 ∧ laneOf 1 = some .lane1 ∧
      cold.activeSlot = none ∧ (cold.lane .lane0).state = .stopped ∧
      (inState .stopped []).activeSlot ≠ none ∧
      ((inState .stopped []).lane .lane0).constants.inconsistency = none ∧
      ((inState .stopped []).lane .lane1).constants.inconsistency ≠ none := by
  refine ⟨?_, by decide +kernel⟩
  intro st _
  unfold State.TakesAtOnce
  cases st <;> decide +kernel

theorem witness_LaneRunAndStopByState_stop :
    (inState .running [read 43 1900 2400]).TakesAtOnce ∧
      ((inState .running [read 43 1900 2400]).lane .lane0).track ≠ [] ∧
      ((inState .starting []).lane .lane0).track = [] ∧
      ((inState .draining [read 43 1900 2400]).lane .lane0).state = .draining ∧
      ((inState .faulted []).lane .lane0).state = .faulted := by
  unfold State.TakesAtOnce; decide +kernel

theorem witness_LaneAbortFaults :
    (inState .draining [read 43 1900 2400]).TakesAtOnce ∧
      ((inState .draining [read 43 1900 2400]).lane .lane0).state = .draining ∧
      ((inState .faulted []).lane .lane0).state = .faulted := by
  unfold State.TakesAtOnce; decide +kernel

theorem witness_FaultEntryAndTimers :
    (inState .starting []).Quiet ∧
      (fun L : Lane => L.state = .starting ∧ L.startTimer = true)
        (({ cold with lane0 := { running0 .starting 0 1 [] with startTimer := true } } : State).lane
          .lane0) ∧
      (fun L : Lane => L.state = .draining ∧ L.drainTimer = true)
        (({ cold with lane0 := { running0 .draining 0 1 [read 1 0 1000] with
          drainTimer := true } } : State).lane .lane0) ∧
      (cold.lane .lane0).startTimer = false ∧ (cold.lane .lane0).drainTimer = false := by
  unfold State.Quiet; decide +kernel

/-- The test of a request's lane that entering FAULTED speaks of. -/
theorem witness_FaultEntryAndTimers_ofLane (l : LaneId) :
    ∃ ofLane : LookupRequest → Bool, ∀ r, ofLane r = true ↔ ∃ n, r.requester = .piece l n := by
  refine ⟨fun r => match r.requester with
    | .piece l' _ => decide (l' = l)
    | .query _ => false, fun r => ?_⟩
  obtain ⟨w, _⟩ := r
  cases w <;> simp

theorem witness_LaneClearAbandons :
    (inState .faulted [read 1 0 1000, read 2 5000 1000]).TakesAtOnce ∧
      ((inState .faulted [read 1 0 1000, read 2 5000 1000]).lane .lane0).state = .faulted ∧
      (cold.lane .lane0).state ≠ .faulted := by
  unfold State.TakesAtOnce; decide +kernel

/-- Items at the ends of GATE DISTANCE (1 to 1,048,575). -/
theorem witness_ConstantsWriteAndLock :
    (inState .running []).TakesAtOnce ∧ ((inState .running []).lane .lane0).state ≠ .stopped ∧
      cold.TakesAtOnce ∧ (cold.lane .lane0).state = .stopped ∧ (cold.lane .lane0).lock = false ∧
      ({ cold with lane0 := { Lane.cold false with lock := true } } : State).lane0.lock = true ∧
      (∀ y ∈ [(⟨2, 1, 1⟩ : ConstantItem), ⟨2, 12, 1048575⟩], constantItemOk y = true) ∧
      constantItemOk ⟨2, 13, 1⟩ = false ∧ constantItemOk ⟨2, 12, 1048576⟩ = false ∧
      constantItemOk ⟨2, 1, 0⟩ = false := by
  unfold State.TakesAtOnce; decide +kernel

/-- R5 and R6: items at the ends of their ranges and beyond them, an index beyond its range, one that
is ignored, and the codes 0 and 20. -/
theorem test_constant_items :
    (∀ x ∈ [(⟨1, 255, 12⟩ : ConstantItem), ⟨2, 12, 1048575⟩, ⟨9, 3, 65535⟩, ⟨15, 0, 16383⟩, ⟨19, 0, 1⟩],
      constantItemOk x = true) ∧
    (∀ x ∈ [(⟨1, 1, 13⟩ : ConstantItem), ⟨5, 0, 1⟩, ⟨9, 4, 0⟩, ⟨13, 0, 4096⟩, ⟨19, 0, 121⟩, ⟨0, 0, 1⟩,
      ⟨20, 0, 1⟩], constantItemOk x = false) := by decide

theorem witness_ConsistencyTestConditions :
    constants0.gateCount ≤ 12 ∧ constants0.headCount ≤ 4 ∧ ({ constants0 with
      gateCount := 12, headCount := 4 } : Constants).gateCount ≤ 12 := by decide

/-- R8: for each condition, constants that fail it and none before it, with the item it names; gate 5
is the lowest whose distance does not rise when D[5] is 16,000 (1.2.2, step 6). -/
theorem witness_ConsistencyTestConditions_first :
    constants0.inconsistency = none ∧
      ({ constants0 with gateCount := 0, runoutDistance := 1 } : Constants).inconsistency =
        some ⟨1, 1, none⟩ ∧
      ({ constants0 with gates := constants0.gates.set 4 (.cold 16000) } : Constants).inconsistency =
        some ⟨2, 2, some 5⟩ ∧
      ({ constants0 with runoutDistance := 32000, lengthMin := 255, lengthMax := 1 } :
        Constants).inconsistency = some ⟨3, 6, none⟩ ∧
      ({ constants0 with lengthMin := 255, lengthMax := 254, readClose := 1 } :
        Constants).inconsistency = some ⟨4, 13, none⟩ ∧
      ({ constants0 with lengthMin := 40, readClose := 2399 } : Constants).inconsistency =
        some ⟨5, 11, none⟩ ∧
      ({ constants0 with lengthMin := 40, headOffset := #v[600, 1200, 2777, 65535] } :
        Constants).inconsistency = some ⟨6, 11, none⟩ ∧
      ({ constants0 with lengthMin := 40, readClose := 2900 } : Constants).inconsistency =
        some ⟨7, 11, none⟩ := by decide +kernel

theorem witness_LaneReportsChangeNothing :
    (inState .running [read 43 1900 2400]).TakesAtOnce ∧
      ((inState .running [read 43 1900 2400]).lane .lane0).track[0]? = some (read 43 1900 2400) ∧
      ((inState .running [read 43 1900 2400]).lane .lane0).track.length ≤ 1 ∧
      (fun hs : List Hold => hs ≠ [] ∧ ∀ h ∈ hs, fwd 16777000 h.releaseAt ≤ 8388607)
        [⟨.lane1, 1, 16777100, 100⟩, ⟨.lane1, 2, 16777200, 40⟩] ∧
      latestRelease [⟨.lane1, 1, 16777100, 100⟩, ⟨.lane1, 2, 16777200, 40⟩] = some 100 ∧
      oldestFields [] = [] := by
  unfold State.TakesAtOnce; decide +kernel

theorem witness_LeadingEdgeOpensRecordOrNone :
    (fun s : State => s.Quiet ∧ s.activeSlot = some .slot1 ∧ (s.lane .lane0).state = .draining ∧
        (s.lane .lane0).track.length < 64) (inState .draining (List.replicate 63 (read 1 0 1000))) := by
  simp only [State.Quiet]; decide +kernel

theorem witness_LeadingEdgeOpensRecordOrNone_none :
    (inState .faulted []).Quiet ∧ ((inState .faulted []).lane .lane0).state = .faulted ∧
      (fun s : State => (s.lane .lane0).state = .running ∧ 64 ≤ (s.lane .lane0).track.length)
        (inState .running (List.replicate 64 (read 1 0 1000))) ∧
      (fun s : State => s.resetLine = false ∧ s.activeSlot = none ∧ (s.lane .lane0).state = .running ∧
          (s.lane .lane0).track.length < 64) { cold with lane0 := running0 .running 0 1 [] } := by
  simp only [State.Quiet]; decide +kernel

/-- Lane 1 with A of 8.8.1 ARMED at gate 3: the passage of 4 there meets A's span, that of 5 does not,
and no other gate takes either. -/
def capturing : Lane := running1 .running 4001300 [pieceA, read 4 4000950 300, read 5 4001100 200]

/-- The passage of a record at a gate meets an open span, as R137 has it. -/
def meets (L : Lane) (c : Piece) (t : Position) (g : Gate) (f r : Position) : Prop :=
  fwd (ahead c.lead L.constants.gates[g.val].distance) f ≤
      fwd (ahead c.lead L.constants.gates[g.val].distance) (ahead t L.constants.gates[g.val].distance) ∨
    fwd f (ahead c.lead L.constants.gates[g.val].distance) < fwd f r

/-- A gate takes a record: an ARMED record's span there, or a hold's, meets its passage. -/
def takes (L : Lane) (c : Piece) (t : Position) (g : Gate) : Prop :=
  (∃ q ∈ L.track, q.route = .armed ∧ q.gate = some g ∧
    ∃ f r, q.openAt = some f ∧ q.releaseAt = some r ∧ meets L c t g f r) ∨
  ∃ h ∈ L.holds[g.val], meets L c t g h.openAt h.releaseAt

theorem witness_CaptureAndRerouting :
    (read 4 4000950 300).trail = some 4001250 ∧ (read 4 4000950 300).route = .unrouted ∧
      (2 : Gate).val + 1 ≤ capturing.constants.gateCount ∧ (0 : Gate) < 2 ∧
      takes capturing (read 4 4000950 300) 4001250 2 ∧
      (∀ g' : Gate, g' ≠ 2 → ¬ takes capturing (read 4 4000950 300) 4001250 g') ∧
      (read 5 4001100 200).trail = some 4001300 ∧
      (∀ g : Gate, ¬ takes capturing (read 5 4001100 200) 4001300 g) ∧ pieceA.route ≠ .unrouted ∧
      (∀ p ∈ capturing.track, ∀ q ∈ capturing.track, p.number = q.number → p = q) := by
  have other : ∀ c t (g : Gate), takes capturing c t g → g = 2 ∧ meets capturing c t 2 4009498 4010660 := by
    rintro c t g (⟨q, hq, ha, hg, f, r, hf, hr, h⟩ | ⟨h, hh, -⟩)
    · have hA : q = pieceA := by
        rcases (by simpa [capturing, running1] using hq :
          q = pieceA ∨ q = read 4 4000950 300 ∨ q = read 5 4001100 200) with e | e | e
        · exact e
        · subst e; exact absurd ha (by decide)
        · subst e; exact absurd ha (by decide)
      subst hA
      have hg2 : (2 : Gate) = g := Option.some.inj hg
      have hf2 : (4009498 : Position) = f := Option.some.inj hf
      have hr2 : (4010660 : Position) = r := Option.some.inj hr
      subst hg2 hf2 hr2
      exact ⟨rfl, h⟩
    · exfalso
      have e : capturing.holds[g.val] = [] := by
        have : capturing.holds = Vector.replicate 12 [] := rfl
        simp [this]
      rw [e] at hh
      exact absurd hh (by simp)
  refine ⟨by decide, by decide, by decide, by decide, Or.inl ⟨pieceA, List.mem_cons_self, rfl, rfl,
    4009498, 4010660, rfl, rfl, ?_⟩, fun g' h t => h (other _ _ _ t).1, by decide,
    fun g t => ?_, by decide, by decide +kernel⟩
  · exact Or.inr (by decide +kernel)
  · rcases (other _ _ _ t).2 with h | h
    · exact absurd h (by decide +kernel)
    · exact absurd h (by decide +kernel)

/-- A trailing edge one count below Lmin and at it (Lmin is 300); no ENTERING record; a forced trail
at its position. -/
theorem witness_TrailIsSet :
    (inState .running [entered 42 4701]).Quiet ∧
      (fun L : Lane => L.state ≠ .faulted ∧ L.track = [] ++ entered 42 4701 :: [] ∧
          fwd (entered 42 4701).lead L.pos < L.constants.lengthMin)
        ((inState .running [entered 42 4701]).lane .lane0) ∧
      (fun L : Lane => L.constants.lengthMin ≤ fwd (entered 42 4700).lead L.pos)
        ((inState .running [entered 42 4700]).lane .lane0) ∧
      (∀ p ∈ ((inState .running [read 43 1900 2400]).lane .lane0).track, p.stage ≠ .entering) ∧
      (entered 42 4701).stage = .entering ∧
      (fun L : Lane => L.piece 42 = some (entered 42 2600) ∧
          due (entered 42 2600).forcedTrailAt L.pos = true)
        ((inState .running [entered 42 2600]).lane .lane0) ∧
      (fun p : Piece => (inState .running [p]).lane0.piece 42 = some p ∧
          due p.forcedTrailAt (inState .running [p]).lane0.pos = true ∧ p.stage ≠ .entering)
        { read 42 2600 1000 with forcedTrailAt := some 5000#24 } := by
  simp only [State.Quiet]; decide +kernel

/-- A record whose events lie one count ahead. -/
def notYet (p : Piece) : Piece :=
  { p with
    forcedTrailAt := some 5001#24
    readCloseAt := some 5001#24
    lastChanceAt := some 5001#24
    fireAt := some 5001#24
    window := some ⟨5000#24, 5001#24⟩ }

theorem witness_PositionEventsOnlyWhenDue :
    (inState .running [notYet (read 43 1900 2400)]).Quiet ∧
      ((inState .faulted [read 43 1900 2400]).lane .lane0).state = .faulted ∧
      ((inState .running []).lane .lane0).piece 43 = none ∧
      (fun L : Lane => L.piece 43 = some (notYet (read 43 1900 2400)) ∧
          due (notYet (read 43 1900 2400)).forcedTrailAt L.pos = false ∧
          due (notYet (read 43 1900 2400)).readCloseAt L.pos = false ∧
          due (notYet (read 43 1900 2400)).lastChanceAt L.pos = false ∧
          due (notYet (read 43 1900 2400)).fireAt L.pos = false ∧
          due ((notYet (read 43 1900 2400)).window.map Window.closes) L.pos = false ∧
          (∀ h ∈ L.holds[2], h.piece = 43 → reached h.releaseAt L.pos = false))
        ((inState .running [notYet (read 43 1900 2400)]).lane .lane0) := by
  simp only [State.Quiet]; decide +kernel

/-- Read close at its position: of an ENTERING record, of one without a report (a service class), and of
one with a key, with 7 and with 8 requests waiting. -/
theorem witness_ReadCloseResolves :
    (fun s : State => s.Quiet ∧ (s.lane .lane0).piece 43 = some (entered 43 2200) ∧
        (s.lane .lane0).state ≠ .faulted ∧
        due (entered 43 2200).readCloseAt (s.lane .lane0).pos = true ∧
        (entered 43 2200).stage = .entering) (inState .running [entered 43 2200]) ∧
      (fun s : State => (s.lane .lane0).piece 43 = some (read 43 2200 1000) ∧
          due (read 43 2200 1000).readCloseAt (s.lane .lane0).pos = true ∧
          (read 43 2200 1000).stage ≠ .entering ∧
          serviceClass false false (readOutcome (s.slot .slot1).formats (read 43 2200 1000).reports) =
            some 0)
        (inState .running [read 43 2200 1000]) ∧
      (fun s : State => s.lookup.queue.length < 8 ∧ serviceClass false false
          (readOutcome (s.slot .slot1).formats (slots codeA codeA none none)) = none ∧
          outcomeKey (s.slot .slot1).formats
            (readOutcome (s.slot .slot1).formats (slots codeA codeA none none)) =
              some ⟨452771903, some 214⟩)
        { inState .running [read 43 2200 1000] with lookup := { LookupUnit.cold with
          queue := List.replicate 7 ⟨.query 1, 5, none, .slot1, 0⟩ } } ∧
      8 ≤ ({ cold with lookup := { LookupUnit.cold with
        queue := List.replicate 8 ⟨.query 1, 5, none, .slot1, 0⟩ } } : State).lookup.queue.length := by
  simp only [State.Quiet]; decide +kernel

theorem witness_LastChanceSendsToRunout :
    (fun s : State => s.Quiet ∧ (s.lane .lane0).state ≠ .faulted ∧ ∀ p ∈ (s.lane .lane0).track,
        (s.lane .lane0).piece p.number = some p ∧ due p.lastChanceAt (s.lane .lane0).pos = true)
      (inState .running (([.entering, .reading, .deciding, .decided] : List Stage).map (fun st =>
        { read st.code 0 1000 with stage := st, lastChanceAt := some 5000#24 }))) := by
  simp only [State.Quiet]; decide +kernel

theorem witness_FinalizationAndWhatFollows :
    (fun k : PlanSlot => k.state = .retiring ∧ k.refs ≤ 1)
        (({ cold with slot1 := plan .retiring 1 } : State).slot .slot1) ∧
      2 ≤ (({ cold with slot1 := plan .retiring 2 } : State).slot .slot1).refs ∧
      (cold.lane .lane1).jamPending = none ∧
      (fun L : Lane => L.jamPending = some 5026000#24 ∧ L.closesAt 5026000#24 = true)
        { running1 .running 5026000 [runout1 3 5004200 5005000] with jamPending := some 5026000#24 } ∧
      (fun L : Lane => L.jamPending = some 5026000#24 ∧ L.closesAt 5026000#24 = false ∧
          L.state = .running)
        { running1 .running 5026000 [] with jamPending := some 5026000#24 } ∧
      (fun L : Lane => L.track = [] ∧ L.state = .draining) ((inState .draining []).lane .lane0) ∧
      (inState .draining [read 1 0 1000]).lane0.track ≠ [] := by decide +kernel

theorem witness_CheckDigitSchemes :
    ((List.range 10).map (fun i =>
      ((digits 452771905 10).reverse.getD i 0).val * (2 + i % 6))).sum % 11 = 1 := by decide

/-- A string that takes format 0 and is a valid read, one that takes it and fails its check, and one
that takes no format. -/
theorem witness_ReadOutcomeKeyAndClass :
    (format0.pfx <+: digits 31000452771903214069 20 ∧
        (digits 31000452771903214069 20).length = format0.codeLength) ∧
      (∀ f ∈ [format0, format2], ¬ (f.pfx <+: digits 52000452771903214069 20 ∧
        (digits 52000452771903214069 20).length = f.codeLength)) ∧
      isValidRead [format0, format2] (digits 31000452771903214069 20) = true ∧
      isValidRead [format0, format2] (digits 31000452771903214068 20) = false ∧
      formatFor [format0, format2] (digits 31000452771903214068 20) = some format0 ∧
      formatFor [format0, format2] (digits 52000452771903214069 20) = none ∧
      (slots codeA none none none).toList.filterMap (fun r => r.bind Report.digits) =
        [digits 31000452771903214069 20] ∧
      (slots (some ⟨0, none⟩) none none none).toList.filterMap (fun r => r.bind Report.digits) = [] := by
  decide +kernel

/-- A vote that resolves on the larger of two groups, and a tie. -/
theorem witness_ReadOutcomeKeyAndClass_vote :
    vote [format0] [digits 5 1, digits 6 1, digits 5 1] = .resolved (digits 5 1) 0 true ∧
      (∀ other ∈ [digits 5 1, digits 6 1, digits 5 1], other ≠ digits 5 1 →
        ([digits 5 1, digits 6 1, digits 5 1].filter (· = other)).length <
          ([digits 5 1, digits 6 1, digits 5 1].filter (· = digits 5 1)).length) ∧
      vote [format0] [digits 5 1, digits 6 1] = .multi := by decide

/-- Candidates at the half-window of 24 counts and one count beyond it. -/
theorem witness_CandidateIsNearest :
    ((running0 .running 900 2 [entered 1 16776800]).candidate 600 208#24).map Piece.number = some 1 ∧
      (running0 .running 900 2 [entered 1 16776800]).candidate 600 209#24 = none := by decide +kernel

theorem witness_ScanReportPlaced :
    (Lane.cold false).state = .stopped ∧
      (fun L : Lane => L.state ≠ .stopped ∧ L.state ≠ .faulted ∧ L.constants.headCount ≤ 3 ∧
          2 < L.constants.headCount ∧ L.candidate L.constants.headOffset[2] 2100#24 = some (entered 1 200) ∧
          L.candidate L.constants.headOffset[2] 2125#24 = none)
        (running0 .running 900 2 [entered 1 200]) ∧
      goodDigits (List.replicate 32 0x39) ≠ none ∧ goodDigits (List.replicate 33 0x39) = none ∧
      goodDigits [0x2F] = none ∧ goodDigits [0x3A] = none ∧ (3 : Nat) ≠ 1 ∧ (0 : Nat) ≠ 2 ∧
      (entered 1 200).stage = .entering ∧
      (fun p : Piece => (running0 .running 900 2 [p]).candidate 1900 2100#24 = some p ∧
        p.stage = .deciding) { read 1 200 500 with stage := .deciding } := by decide +kernel

/-- Slot 1 in every state, with the reference counts R70 allows: those a PLAN OPEN finds, and those a
load is refused in. -/
theorem witness_PlanOpenByState :
    (∀ st : SlotState, ({ cold with slot1 := plan st 0 } : State).TakesAtOnce ∧
        (({ cold with slot1 := plan st 0 } : State).slot .slot1).state = st) ∧
      0 < (({ cold with slot1 := plan .ready 1 } : State).slot .slot1).refs ∧
      (({ cold with slot1 := plan .ready 0 } : State).slot .slot1).refs = 0 ∧
      slotOf 0 = some .slot0 ∧ slotOf 1 = some .slot1 := by
  refine ⟨?_, by decide +kernel⟩
  intro st
  unfold State.TakesAtOnce
  cases st <;> decide +kernel

/-- The slot of 4.3.1 and loads at the ends of its tables: the last format place, the last range
place, and no entries at a start. -/
theorem witness_LoadsWriteTheirTables :
    ({ cold with slot1 := plan .loading 0 } : State).TakesAtOnce ∧
      (fun k : PlanSlot => k.state = .loading ∧ (2 : Nat) = none.getD k.formatsPtr ∧
          2 ≤ k.formats.length ∧ 2 + 6 ≤ 8 ∧ (1023 : Nat) = (some 1023).getD k.rangesPtr ∧
          1023 + 1 ≤ 1024 ∧ (0 : Nat) = (some 0).getD k.doctypesPtr ∧ 0 ≤ k.doctypes.length)
        (({ cold with slot1 := plan .loading 0 } : State).slot .slot1) ∧
      [(⟨0, 1, 0x31, 0, 0, 0, 10, 1, 9, 0, 0, 1⟩ : FormatItem)].map formatEntry =
        [(⟨0, [1], 10, 1, 9, 0, 0, .none⟩ : FormatEntry)].map some ∧
      [(⟨0, 999999999999, 63⟩ : RangeItem)].map rangeEntry =
        [(⟨0, 999999999999, 63⟩ : RangeEntry)].map some ∧
      [(⟨999, 8, 2⟩ : DoctypeItem)].map doctypeEntry =
        [(⟨999, 8, .weak⟩ : DoctypeEntry)].map some := by
  unfold State.TakesAtOnce; decide +kernel

/-- A start one beyond the count, a last position one beyond the capacity, an item out of range behind
one in range, and no start with no items. -/
theorem witness_LoadsWriteTheirTables_refusals :
    (fun k : PlanSlot => k.state = .loading ∧ k.formats.length < (some 3).getD k.formatsPtr ∧
        k.ranges.length < (some 4).getD k.rangesPtr ∧ k.doctypes.length < (some 2).getD k.doctypesPtr ∧
        (none : Option Nat).getD k.formatsPtr ≤ k.formats.length ∧
        8 < (none : Option Nat).getD k.formatsPtr + 7 ∧
        1024 < (none : Option Nat).getD k.rangesPtr + 1023 ∧
        64 < (none : Option Nat).getD k.doctypesPtr + 64 ∧
        (none : Option Nat).getD k.formatsPtr + ([] : List FormatItem).length ≤ 8)
        (({ cold with slot1 := plan .loading 0 } : State).slot .slot1) ∧
      formatEntry ⟨0, 1, 0x30, 0, 0, 0, 32, 1, 12, 0, 0, 1⟩ ≠ none ∧
      formatEntry ⟨0, 1, 0x30, 0, 0, 0, 33, 1, 12, 0, 0, 1⟩ = none ∧
      rangeEntry ⟨0, 999999999999, 8⟩ ≠ none ∧ rangeEntry ⟨0, 1000000000000, 8⟩ = none ∧
      doctypeEntry ⟨999, 63, 1⟩ ≠ none ∧ doctypeEntry ⟨1000, 63, 1⟩ = none := by decide +kernel

theorem witness_LoadsWriteTheirTables_lists :
    [(⟨63, 1, 12, 255, 0, 255⟩ : ClassItem)].map classEntryOf =
        [((63 : Fin 64), (⟨true, ⟨12, none⟩, ⟨0, none⟩⟩ : ClassEntry))].map some ∧
      classEntryOf ⟨64, 1, 1, 255, 1, 255⟩ = none ∧
      (∀ x ∈ [(⟨1, 63⟩ : SettingItem), ⟨3, 2⟩, ⟨5, 65535⟩], applySetting Settings.initial x ≠ none) ∧
      applySetting Settings.initial ⟨1, 7⟩ = none ∧
      (({ cold with slot1 := PlanSlot.fresh .loading } : State).slot .slot1).settings =
        Settings.initial := by
  decide +kernel

/-- A slot in CHECKING that passes the check. -/
def passing : PlanSlot := { plan .checking 0 with ranges := [⟨100000000, 199999999, 12⟩] }

theorem witness_PlanCheckAndCompletion :
    (fun s : State => s.TakesAtOnce ∧ s.checker ≠ none ∧ s.Quiet ∧ s.checker = some ⟨.slot1, 22⟩ ∧
        (s.slot .slot1).checkError = none)
        { cold with slot1 := passing, checker := some ⟨.slot1, 22⟩ } ∧
      (PlanSlot.fresh .checking).checkError ≠ none ∧
      cold.checker = none ∧ (cold.slot .slot1).state = .empty ∧
      (({ cold with slot1 := plan .loading 0 } : State).slot .slot1).state = .loading ∧
      (({ cold with slot1 := plan .ready 0 } : State).slot .slot1).state = .ready := by
  unfold State.TakesAtOnce State.Quiet; decide +kernel

theorem witness_PlanCheckerVerdict :
    passing.checkError = none ∧
      [TableId.format, .range, .doctype, .settings, .cls].map
        (fun t => [TableId.format, .range, .doctype, .settings, .cls].idxOf t) = [0, 1, 2, 3, 4] := by
  decide +kernel

/-- R80 to R82: a slot for each error kind, a later test failing behind it; a shadowed format is
reported at the later position. -/
theorem witness_PlanCheckerVerdict_first :
    (∀ x ∈ [
        (({ passing with formats := [format0, { format0 with accountStart := 9 }, format0] } : PlanSlot),
          (⟨.format, 1, .formatField⟩ : CheckError)),
        ({ passing with formats := [format0, format2, format0], doctypes := [] }, ⟨.format, 2, .formatShadowed⟩),
        ({ passing with ranges := [⟨2, 1, 40⟩] }, ⟨.range, 0, .rangeInverted⟩),
        ({ passing with ranges := [⟨1, 2, 12⟩, ⟨2, 3, 40⟩] }, ⟨.range, 1, .rangeOrder⟩),
        ({ passing with ranges := [⟨1, 2, 12⟩, ⟨3, 3, 40⟩] }, ⟨.range, 1, .classUndefined⟩),
        ({ passing with doctypes := [⟨214, 40, .weak⟩] }, ⟨.doctype, 0, .classUndefined⟩),
        ({ passing with doctypes := [⟨214, 31, .weak⟩, ⟨214, 31, .strong⟩] },
          ⟨.doctype, 1, .doctypeDuplicate⟩),
        ({ passing with settings := ⟨9, .plan, true, .fallback, 1208⟩ }, ⟨.settings, 0, .classUndefined⟩),
        ({ passing with settings := ⟨8, .plan, true, .fallback, 1208⟩ }, ⟨.cls, 0, .serviceUndefined⟩)],
      x.1.checkError = some x.2) := by decide +kernel

theorem witness_PlanSwitchByState :
    (fun s : State => s.TakesAtOnce ∧ (s.slot .slot0).state = .ready ∧
        (s.slot (otherSlot .slot0)).state = .active ∧ (s.slot .slot1).state = .active)
        { cold with slot0 := plan .ready 0, slot1 := plan .active 1 } ∧
      (fun s : State => (s.slot .slot0).state = .retiring ∧ (s.slot (otherSlot .slot0)).state = .active)
        { cold with slot0 := plan .retiring 1, slot1 := plan .active 0 } ∧
      (fun s : State => (s.slot .slot0).state = .ready ∧ (s.slot (otherSlot .slot0)).state ≠ .active)
        { cold with slot0 := plan .ready 0 } ∧
      (cold.slot .slot0).state = .empty := by
  unfold State.TakesAtOnce; decide +kernel

theorem witness_PlanReports :
    (fun s : State => s.TakesAtOnce ∧ (s.slot .slot1).formats[1]? = some format2 ∧
        (s.slot .slot1).formats.length ≤ 2 ∧ (s.slot .slot1).ranges[2]?.isSome = true ∧
        (s.slot .slot1).ranges.length ≤ 3 ∧ (s.slot .slot1).doctypes[0]?.isSome = true ∧
        (s.slot .slot1).doctypes.length ≤ 1) { cold with slot1 := plan .active 0 } ∧
      63 < 64 ∧ 64 ≤ 64 ∧ 6 ≤ 6 := by
  unfold State.TakesAtOnce; decide +kernel

/-- The hot list of 5.1.1, and lists of 255 and 256 entries. -/
theorem witness_HotListRequests :
    (fun s : State => s.TakesAtOnce ∧ s.hot.Pairwise (fun a b => a.account < b.account) ∧
        s.hot = [⟨210556001, 40⟩] ++ ⟨452771903, 41⟩ :: [⟨880000000005, 42⟩] ∧
        s.hot = hotStart.take 1 ++ hotStart.drop 1 ∧
        (∀ e ∈ hotStart.take 1, e.account < 305000000) ∧ (∀ e ∈ hotStart.drop 1, 305000000 < e.account) ∧
        s.hot.length < 256 ∧ (∀ e ∈ s.hot, e.account ≠ 5) ∧ s.hot[2]? = some ⟨880000000005, 42⟩ ∧
        s.hot.length ≤ 3) { cold with hot := hotStart } ∧
      (fun h : List HotEntry => h.Pairwise (fun a b => a.account < b.account) ∧ 256 ≤ h.length ∧
        (∀ e ∈ h, e.account < 999999999999)) ((List.range 256).map (fun i => ⟨i, 8⟩)) ∧
      ((List.range 255).map (fun i => (⟨i, 8⟩ : HotEntry))).length < 256 ∧
      999999999999 ≤ 999999999999 ∧ 999999999999 < 1000000000000 := by
  unfold State.TakesAtOnce; decide +kernel

theorem witness_DirectorySetAndStatus :
    cold.TakesAtOnce ∧ 1048577 % 2 = 1 ∧ 1048575 < 1048576 ∧ 262144 < 262145 ∧
      1048576 < 524290 + 2 * 262144 ∧ 524288 % 2 = 0 ∧ 524288 + 2 * 262144 ≤ 1048576 := by
  unfold State.TakesAtOnce; decide +kernel

theorem witness_HoldAndReadyLines :
    cold.Quiet ∧ cold.dir.port = .idle ∧ cold.dir.readyLine = false ∧ cold.dir.readLine = false ∧
      (fun d : Directory => d.port = .probing ∧ d.readyLine = false ∧ d.readLine = true ∧
          d.search.isSome = true ∧ d.search.bind Search.word0 = none) (probing 0 10 none) ∧
      (probing 0 10 (some 7)).search.bind Search.word0 = some 7 ∧
      ({ probing 0 10 none with port := .yielding, holdLine := true } : Directory).port = .yielding ∧
      ({ Directory.cold true true with port := .held, holdAck := true } : Directory).port = .held ∧
      (Directory.cold true true).readyLine = true := by
  unfold State.Quiet; decide +kernel

/-- Probes of entry 4 of a search of entries 0 to 9, and of the one entry of a search. -/
theorem witness_SearchHalvesAndEnds :
    (probing 0 10 (some 5)).port = .probing ∧ 4 = (0 + (10 - 1)) / 2 ∧ 0 < 4 ∧ 4 + 1 < 10 ∧
      3 = (3 + (4 - 1)) / 2 ∧ 3 ≤ 3 ∧ 4 ≤ 3 + 1 ∧
      452771903 = (452771903#32).toNat + 4294967296 * ((7936#32).toNat % 256) ∧
      (fun d : Directory => d.port = .yielding ∧ d.holdLine = true)
        { probing 0 10 (some 5) with port := .yielding, holdLine := true } ∧
      (fun d : Directory => d.port = .yielding ∧ d.holdLine = false)
        { probing 0 10 (some 5) with port := .yielding } ∧
      ((looking cold (.query 9) 5 none .directory none).lookup.engine.map Job.stage) =
        some .directory := by decide +kernel

theorem witness_ReadTimeoutCounts :
    (fun s : State => s.Quiet ∧ s.dir.readLine = true ∧ s.dir.port = .probing ∧ s.dir.consecutive = 0)
        { cold with dir := probing 0 10 none } ∧
      1 ≤ ({ probing 0 10 none with consecutive := 1 } : Directory).consecutive ∧
      (∀ hold ∈ [false, true], ∀ n ∈ [0, 1], (fun s : State => s.Quiet ∧ s.dir.readLine = true ∧
          s.dir.port = .yielding ∧ s.dir.holdLine = hold ∧ s.dir.consecutive = n)
        { cold with dir := { probing 0 10 none with
          port := .yielding, holdLine := hold, consecutive := n } }) ∧
      cold.dir.readLine = false := by
  unfold State.Quiet; decide +kernel

theorem witness_QueryAndArbiterSet :
    (fun s : State => s.TakesAtOnce ∧ (s.slot .slot1).state = .active ∧ (s.slot .slot0).state = .empty ∧
        s.lookup.queue.length < 8)
        (part (Lane.cold false) (Lane.cold false) 0) ∧
      8 ≤ ({ cold with lookup := { LookupUnit.cold with
        queue := List.replicate 8 ⟨.query 1, 5, none, .slot1, 0⟩ } } : State).lookup.queue.length ∧
      999999999999 < 1000000000000 ∧ (999 : Nat) ≤ 999 ∧ 999 < 1000 ∧ 3 < 4 ∧ 255 < 256 := by
  unfold State.TakesAtOnce; decide +kernel

/-- The priorities of 6.8. -/
def priority68 (x : LookupRequest) : Nat :=
  match x.requester with
  | .piece .lane0 _ => 3
  | .piece .lane1 _ => 1
  | .query _ => 0

theorem witness_ArbiterGrants :
    (fun u : LookupUnit => u.engine = none ∧
        u.queue = queue68.take 1 ++ ⟨.piece .lane0 300, 1, none, .slot1, 102⟩ :: queue68.drop 2 ∧
        ¬ (1 ≤ u.ageLimit ∧ u.ageLimit ≤ u.passCount) ∧
        (∀ x ∈ queue68.take 1, priority68 x < priority68 ⟨.piece .lane0 300, 1, none, .slot1, 102⟩) ∧
        (∀ x ∈ queue68.drop 2, priority68 x ≤ priority68 ⟨.piece .lane0 300, 1, none, .slot1, 102⟩))
        ⟨queue68, 105, 3, 1, 2, 1, none⟩ ∧
      (fun u : LookupUnit => (1 ≤ u.ageLimit ∧ u.ageLimit ≤ u.passCount) ∧
        u.queue = [] ++ ⟨.piece .lane1 20, 1, none, .slot1, 101⟩ :: queue68.drop 1)
        ⟨queue68, 105, 3, 1, 2, 2, none⟩ ∧
      cold.lookup.queue = [] ∧ (looking cold (.query 9) 5 none .hot none).lookup.engine ≠ none := by
  decide +kernel

/-- The engine at each stage over the slot of 4.4.1. -/
def atStage (st : EngineStage) (account : Nat) (r : Option (Nat × LookupSource)) : State :=
  { looking (part (Lane.cold false) (Lane.cold false) 1) (.query 9) account (some 214) st r with
    hot := [⟨5, 23⟩, ⟨6, 44⟩] }

theorem witness_StagesComplete :
    (∀ st : EngineStage, (atStage st 5 none).Quiet ∧
        (atStage st 5 none).lookup.engine.map Job.stage = some st) ∧
      (atStage .hot 5 none).hot.Pairwise (fun a b => a.account < b.account) ∧
      hotClass (atStage .hot 5 none).hot 5 = some 23 ∧
      ((atStage .hot 5 none).slot .slot1).classDefined 23 = true ∧
      hotClass (atStage .hot 6 none).hot 6 = some 44 ∧
      ((atStage .hot 6 none).slot .slot1).classDefined 44 = false ∧
      (∀ e ∈ (atStage .hot 7 none).hot, e.account ≠ 7) ∧
      rangeFor (plan .active 1).ranges 452000001 = some ⟨452000001, 999999999, 23⟩ ∧
      rangeFor (plan .active 1).ranges 1000000000 = none ∧
      (plan .active 1).doctypes = [] ++ (⟨214, 31, .strong⟩ : DoctypeEntry) :: [] ∧
      (∀ e ∈ (plan .active 1).doctypes, e.doctype ≠ 215) ∧
      (⟨214, 31, .weak⟩ : DoctypeEntry).strength = .weak ∧
      (some (23, LookupSource.range) : Option (Nat × LookupSource)) ≠ some (8, .default) := by
  refine ⟨?_, ?_⟩
  · intro st
    unfold State.Quiet
    cases st <;> decide +kernel
  · decide +kernel

theorem witness_RangeSearchFindsTheCoveringEntry :
    (plan .active 0).ranges.Pairwise (fun a b => a.high < b.low) ∧
      (∀ e ∈ (plan .active 0).ranges, e.low ≤ e.high) ∧
      (⟨200000000, 452000000, 14⟩ : RangeEntry) ∈ (plan .active 0).ranges ∧
      rangeFor (plan .active 0).ranges 200000000 = some ⟨200000000, 452000000, 14⟩ ∧
      rangeFor (plan .active 0).ranges 452000000 = some ⟨200000000, 452000000, 14⟩ := by
  decide +kernel

theorem witness_DirectoryStage :
    (cold.slot .slot1).settings.directoryUse = false ∧
      (fun s : State => (s.slot .slot1).settings.directoryUse = true ∧ 0 < s.dir.count ∧
          s.dir.port = .idle ∧ s.dir.failed = false ∧ (s.slot .slot1).settings.policy = .fallback ∧
          (s.slot .slot1).classDefined 31 = true ∧ (s.slot .slot1).classDefined 63 = false)
        { part (Lane.cold false) (Lane.cold false) 1 with
          dir := { Directory.cold false false with count := 1 } } ∧
      ({ Directory.cold false false with count := 1, failed := true } : Directory).failed = true ∧
      ({ Directory.cold true false with count := 1, port := .held } : Directory).port = .held ∧
      ({ plan .active 1 with settings := { Settings.initial with policy := .fault } } :
        PlanSlot).settings.policy = .fault ∧
      8 ≤ 8 ∧ 7 < 8 ∧ 63 < 64 := by decide +kernel

/-- A decided-to-be record: its lookup in progress, its class written or not. -/
def deciding90 (c : Option Nat) : Piece :=
  { read 90 100 1000 with stage := .deciding, lookup := .inProgress, cls := c }

theorem witness_LookupDeliveredAndRouted :
    (fun s : State => (s.lane .lane0).piece 90 = some (deciding90 none) ∧
        (s.lane .lane0).piece 91 = none ∧ (deciding90 none).cls = none)
        (inState .running [deciding90 none]) ∧
      (fun s : State => (s.lane .lane0).piece 90 = some (deciding90 (some 23)) ∧
        (deciding90 (some 23)).cls = some 23 ∧ (deciding90 (some 23)).route = .unrouted ∧
        (s.lane .lane0).state ≠ .faulted) (inState .running [deciding90 (some 23)]) := by decide +kernel
theorem witness_RoutingBySteps :
    (plan .active 0).settings.serviceRouting = .builtIn ∧ 7 ≤ 7 ∧ 8 ≤ 8 ∧ 63 < 64 ∧
      ({ plan .active 0 with settings := { Settings.initial with serviceRouting := .plan } } :
        PlanSlot).settings.serviceRouting = .plan ∧
      (fun L : Lane => L.acceptingGate 3 = some 2 ∧ L.speed.crit = false ∧
          reached (behind (behind (ahead (read 1 1000000 920).lead L.constants.gates[2].distance)
            (leadCounts L.constants.gates[2].leadTime (max L.speed.figure L.constants.speedFloor)))
              L.constants.guardMargin) L.pos = false ∧
          L.gapConflict (read 1 1000000 920) 2 = false ∧ L.acceptingGate 7 = none ∧
          L.constants.gateCount < 7)
        (running1 .running 1009297 []) ∧
      (fun L : Lane => L.gapConflict (read 2 1000500 420) 2 = true)
        (running1 .running 1003000 [read 1 1000000 400]) ∧
      (fun L : Lane => reached (behind (behind (ahead (read 1 1000000 920).lead
          L.constants.gates[2].distance) (leadCounts L.constants.gates[2].leadTime
            (max L.speed.figure L.constants.speedFloor))) L.constants.guardMargin) L.pos = true)
        (running1 .running 1009298 []) ∧
      ({ SpeedMonitor.cold with crit := true } : SpeedMonitor).crit = true ∧
      (fun L : Lane => L.acceptingGate 3 = none ∧ L.acceptingGate 4 = some 3)
        (bin3 (running1 .running 1009297 []) 20 0) := by decide +kernel

theorem witness_FireAndRelease :
    (fun s : State => s.resetLine = false ∧ (s.lane .lane1).state ≠ .faulted ∧
        (s.lane .lane1).piece 1 = some (armed1 1 5000000 5000800 2 5009498 5010560) ∧
        (armed1 1 5000000 5000800 2 5009498 5010560).route = .armed ∧
        (armed1 1 5000000 5000800 2 5009498 5010560).openAt = some 5009498#24 ∧
        (armed1 1 5000000 5000800 2 5009498 5010560).releaseAt = some 5010560#24 ∧
        due (armed1 1 5000000 5000800 2 5009498 5010560).fireAt (s.lane .lane1).pos = true)
        { cold with lane1 := running1 .running 5009498 [armed1 1 5000000 5000800 2 5009498 5010560] } ∧
      (fun L : Lane => L.holds[2] = [⟨.lane1, 1, 5009498, 5010560⟩] ++ ⟨.lane1, 2, 5009600, 5010560⟩ :: [] ∧
          reached 5010560#24 L.pos = true ∧
          (∀ x ∈ [(⟨.lane1, 1, 5009498, 5010560⟩ : Hold)],
            x.piece ≠ 2 ∨ reached x.releaseAt L.pos = false))
        { running1 .running 5010560 [] with
          holds := (Lane.cold false).holds.set 2
            [⟨.lane1, 1, 5009498, 5010560⟩, ⟨.lane1, 2, 5009600, 5010560⟩]
          gateOut := (Lane.cold false).gateOut.set 2 true } := by decide +kernel

/-- In a list whose records all stand with a window not yet open, none has opened. -/
theorem none_opened (ps : List Piece) (q : Position)
    (h : ps.all (fun p => (p.window.map (fun w => !reached w.opens q)).getD true) = true) :
    ∀ p ∈ ps, ∀ w, p.window = some w → reached w.opens q = false := by
  intro p hp w hw
  have := List.all_eq_true.1 h p hp
  simpa [hw] using this

/-- At 4,009,599 no window of bin 3 has opened; at 4,009,600 A's has, and A is the oldest. -/
theorem witness_SensorArrivalMatches :
    (fun s : State => s.Quiet ∧ (s.lane .lane1).state ≠ .faulted ∧
        (s.lane .lane1).outstanding 2 = [] ++ pieceA :: [pieceB, pieceC] ∧
        pieceA.window = some ⟨4009600, 4011300⟩ ∧ reached 4009600#24 (s.lane .lane1).pos = true)
        { cold with lane1 := running1 .running 4009600 [pieceA, pieceB, pieceC] } ∧
      (∀ q ∈ (running1 .running 4009599 [pieceA, pieceB, pieceC]).outstanding 2, ∀ w',
        q.window = some w' →
          reached w'.opens (running1 .running 4009599 [pieceA, pieceB, pieceC]).pos = false) ∧
      (running1 .faulted 0 []).state = .faulted :=
  ⟨by simp only [State.Quiet]; decide +kernel, none_opened _ _ (by decide +kernel), rfl⟩

/-- B of 8.8.1 at its close position: below the miss limit, and at it. -/
theorem witness_WindowCloseMisses :
    (fun s : State => s.Quiet ∧ (s.lane .lane1).state ≠ .faulted ∧
        (s.lane .lane1).piece 2 = some pieceB ∧ pieceB.gate = some 2 ∧ pieceB.route = .armed ∧
        pieceB.window = some ⟨4011100, 4012700⟩ ∧ reached 4012700#24 (s.lane .lane1).pos = true ∧
        min 7 ((s.lane .lane1).bins[2].miss + 1) < (s.lane .lane1).constants.missLimit)
        { cold with lane1 := bin3 (running1 .running 4012700 [pieceB, pieceC]) 19 0 } ∧
      (fun L : Lane => L.bins[2].out = false ∧ L.constants.missLimit ≤ min 7 (L.bins[2].miss + 1))
        (bin3 (running1 .running 4012700 [pieceB, pieceC]) 19 1) := by
  simp only [State.Quiet]; decide +kernel

/-- H of 8.8.2 at the opening and at the close of its run-out window. -/
theorem witness_RunoutArrivalsAndLosses :
    (fun s : State => s.Quiet ∧ (s.lane .lane1).state ≠ .faulted ∧
        (s.lane .lane1).runoutList = [] ++ runout1 3 5004200 5005000 :: [] ∧
        (runout1 3 5004200 5005000).window = some ⟨5024200, 5026000⟩ ∧
        reached 5024200#24 (s.lane .lane1).pos = true)
        { cold with lane1 := running1 .running 5024200 [runout1 3 5004200 5005000] } ∧
      (∀ q ∈ (running1 .running 5024199 [runout1 3 5004200 5005000]).runoutList, ∀ w',
        q.window = some w' →
          reached w'.opens (running1 .running 5024199 [runout1 3 5004200 5005000]).pos = false) ∧
      (fun L : Lane => L.piece 3 = some (runout1 3 5004200 5005000) ∧
          (runout1 3 5004200 5005000).route = .runoutBound ∧ reached 5026000#24 L.pos = true)
        (running1 .running 5026000 [runout1 3 5004200 5005000]) :=
  ⟨by simp only [State.Quiet]; decide +kernel, none_opened _ _ (by decide +kernel), by decide +kernel⟩

theorem witness_BinRequests :
    cold.TakesAtOnce ∧ laneOf 1 = some .lane1 ∧ 1 = (0 : Gate).val + 1 ∧ 12 = (11 : Gate).val + 1 ∧
      12 < 13 ∧ 1 ≤ 9999 ∧ 9999 ≤ 9999 ∧ 9999 < 10000 := by
  unfold State.TakesAtOnce; decide +kernel

/-- Window ends with the qualification count left below 2, and brought to 2. -/
theorem witness_WindowEndMeasures :
    (fun s : State => s.Quiet ∧ (s.lane .lane0).state = .running)
        { cold with lane0 := lane98 false 195 } ∧
      (fun s : State => s.Quiet ∧ (s.lane .lane0).state = .starting ∧
        (s.lane .lane0).speed.qualification + 1 = 2 ∧
        decide (min 16383 ((s.lane .lane0).speed.pulses * 16 / (s.lane .lane0).speed.window) <
          (s.lane .lane0).speed.lowLimit) = false ∧
        decide ((s.lane .lane0).speed.critLimit <
          min 16383 ((s.lane .lane0).speed.pulses * 16 / (s.lane .lane0).speed.window)) = false)
        { cold with lane0 := { running0 .starting 0 1 [] with
          speed := { SpeedMonitor.cold with qualification := 1 } } } := by
  simp only [State.Quiet]; decide +kernel

theorem witness_SpeedSetAndAlertClear :
    cold.TakesAtOnce ∧ (cold.lane .lane0).lock = false ∧
      (∀ x ∈ [(⟨2, 100⟩ : SpeedItem), ⟨3, 100⟩, ⟨4, 16383⟩], speedItemOk x = true) ∧
      speedItemOk ⟨2, 16384⟩ = false ∧ speedItemOk ⟨7, 0⟩ = false ∧
      lastValue [⟨2, 100⟩, ⟨3, 100⟩, ⟨4, 16383⟩] 2 0 ≤ lastValue [⟨2, 100⟩, ⟨3, 100⟩, ⟨4, 16383⟩] 3 0 ∧
      lastValue [⟨3, 99⟩, ⟨2, 100⟩] 3 0 < lastValue [⟨3, 99⟩, ⟨2, 100⟩] 2 0 ∧
      lastValue [⟨4, 99⟩, ⟨3, 100⟩] 4 0 < lastValue [⟨4, 99⟩, ⟨3, 100⟩] 3 0 ∧
      (∃ x ∈ [(⟨4, 450⟩ : SpeedItem)], x.code = 4 ∨ x.code = 5) ∧
      (monitor99 true false true 0).mode = .latch ∧ (monitor99 true false true 0).crit = false ∧
      (monitor99 true true true 0).crit = true ∧ SpeedMonitor.cold.mode ≠ .latch := by
  unfold State.TakesAtOnce; decide +kernel

/-- R176: items at the ends of their ranges and beyond them; of two items with a code the last stands,
and without one the value held. -/
theorem test_speed_items :
    (∀ x ∈ [(⟨1, 4⟩ : SpeedItem), ⟨1, 32⟩, ⟨3, 16383⟩, ⟨5, 255⟩, ⟨6, 1⟩, ⟨6, 4⟩], speedItemOk x = true) ∧
      (∀ x ∈ [(⟨1, 5⟩ : SpeedItem), ⟨1, 64⟩, ⟨4, 16384⟩, ⟨5, 256⟩, ⟨6, 0⟩, ⟨6, 5⟩, ⟨0, 0⟩, ⟨7, 0⟩],
        speedItemOk x = false) ∧
      lastValue [⟨2, 100⟩, ⟨3, 7⟩, ⟨2, 90⟩] 2 5 = 90 ∧ lastValue [⟨3, 7⟩] 2 5 = 5 ∧
      lastMode [⟨6, 1⟩, ⟨6, 3⟩, ⟨2, 4⟩] .level = .latch ∧ lastMode [⟨2, 4⟩] .level = .level := by decide

/-- Lengths at the ends of their range: 1, 300, 0 and 301; a body one byte short of whole, and two. -/
theorem witness_ReceiverByState :
    cold.resetLine = false ∧ cold.link.rx = .hunt ∧ cold.link.tx = none ∧ cold.link.buffer = [] ∧
      (linked (fun k => { k with rx := .sync })).link.rx ≠ .hunt ∧
      (linked (fun k => { k with rx := .length none })).link.rx = .length none ∧
      (linked (fun k => { k with rx := .length (some 1) })).link.rx = .length (some 1) ∧
      300 = 256 * (1#8).toNat + (44#8).toNat ∧ 301 = 256 * (1#8).toNat + (45#8).toNat ∧
      1 = 256 * (0#8).toNat + (1#8).toNat ∧ 0 = 256 * (0#8).toNat + (0#8).toNat ∧
      (linked (fun k => { k with rx := .body 2 [7] })).link.rx = .body 2 [7] ∧
      (linked (fun k => { k with rx := .body 2 [] })).link.rx = .body 2 [] ∧ 2 ≤ [(7 : Byte)].length + 1 ∧
      ([] : Bytes).length + 1 < 2 ∧
      (linked (fun k => { k with rx := .check 1 [7] none })).link.rx = .check 1 [7] none ∧
      (linked (fun k => { k with rx := .check 1 [7] (some 8) })).link.rx = .check 1 [7] (some 8) ∧
      (linked (fun k => { k with tx := some [] })).link.tx.isSome = true := by decide +kernel

/-- A receiver state that is not the second length byte. -/
theorem witness_ReceiverByState_lengthError :
    ∀ b0, (linked (fun k => { k with rx := .length none })).link.rx ≠ .length (some b0) := by
  simp [linked]

/-- The halves of a body's CRC. -/
def crcHigh (body : Bytes) : Byte := (crc16 (crcCover body)).extractLsb' 8 8
def crcLow (body : Bytes) : Byte := (crc16 (crcCover body)).extractLsb' 0 8

/-- A REQUEST and a SCAN REPORT at their least lengths and one byte short of them, another kind, and a
CRC that differs. -/
theorem witness_FramesDispatchedByKind :
    (∀ b ∈ [(0x21#8, ([2, 7, 0x14] : Bytes)), (0x21#8, [2, 7]), (0x11#8, [0, 2, 0, 8, 52, 2]),
        (0x11#8, [2, 2, 0, 8, 52, 2]), (0x11#8, [0, 2, 0, 8, 52]), (0x31#8, [])],
      crc16 (u16 (b.2.length + 1) ++ b.1 :: b.2) = crcHigh (b.1 :: b.2) ++ crcLow (b.1 :: b.2)) ∧
      crc16 (u16 (3 + 1) ++ 0x21#8 :: [2, 7, 0x14]) ≠ 0#8 ++ 0#8 ∧
      laneOf (0#8).toNat = some .lane0 ∧ 2 ≤ (2#8).toNat ∧ ([2, 7] : Bytes).length < 3 ∧
      ([0, 2, 0, 8, 52] : Bytes).length < 6 := by decide +kernel

theorem witness_DeviceReports : cold.TakesAtOnce ∧ 2 ≤ 2 := by
  unfold State.TakesAtOnce; decide +kernel

/-! ### States the invariants hold of, one step on -/

/-- A running part with a letter read on lane 0, a QUERY in hand and a pulse waiting to be taken. -/
def busy : State :=
  { part (running0 .running 5000 44 [read 43 1900 2400]) (Lane.cold false) 2 with
    hot := hotStart
    dir := probing 0 10 none
    lookup := { LookupUnit.cold with
      engine := some ⟨⟨.query 9, 452771903, none, .slot1, 0⟩, .directory, none, .clear⟩ }
    link := { Link.cold with reserved := 1 }
    pending := [.encoderPulse .lane0] }

theorem witness_LanesStaySound : busy.LanesSound ∧ ∃ t, step busy = .next t := by
  refine ⟨fun l => ?_, _, rfl⟩
  cases l <;> constructor <;> decide +kernel

theorem witness_PlanLawsKept : busy.PlanLaws ∧ ∃ t, step busy = .next t := by
  refine ⟨⟨fun k => ?_, by decide +kernel, fun k => ?_, fun k => ?_, fun l => ?_⟩, _, rfl⟩
  · cases k <;> constructor <;> decide +kernel
  · cases k <;> decide +kernel
  · cases k <;> decide +kernel
  · cases l <;> decide +kernel

theorem witness_QueuesStayBounded : busy.QueuesBounded ∧ ∃ t, step busy = .next t := by
  refine ⟨?_, _, rfl⟩
  constructor <;> decide +kernel

theorem witness_HotListAndPortStaySound :
    busy.HotOrdered ∧ busy.PortSound ∧ ∃ t, step busy = .next t := by
  refine ⟨?_, ⟨?_, by decide +kernel⟩, _, rfl⟩
  · unfold State.HotOrdered; decide +kernel
  · constructor <;> decide +kernel

end Sys2Proof.Tests
end

section
/-! SUPPORT. What a request that is taken can do (R194), said once for each request, and from it the
rule R2 that a refused request changes no state. -/

namespace Sys2Proof.Machine

/-- What a taken request makes of `s`: it answers and changes nothing else, as every refusal and every
plain report does; or it acts and answers DONE or REPLACED; or it acts and answers later, as a QUERY
does (R115). -/
inductive State.RequestOutcome (s : State) : State → Prop where
  | answered (tag code : Nat) (st : Status) (r : Bytes) : s.RequestOutcome (s.answer tag code st r)
  | done (u : State) (tag code : Nat) (r : Bytes) : s.RequestOutcome (u.answer tag code .done r)
  | replaced (u : State) (tag code : Nat) (r : Bytes) : s.RequestOutcome (u.answer tag code .replaced r)
  | unanswered (t : State) (h : t.link.responses = s.link.responses) : s.RequestOutcome t

/-- A response that `answer` placed at the tail is the one that joined the queue. -/
theorem State.eq_of_answer_responses {s u : State} {tag code : Nat} {st : Status} {r : Bytes}
    {x : Response} (h : (u.answer tag code st r).link.responses = s.link.responses ++ [x]) :
    x = ⟨tag, code, st, r⟩ :=
  (List.singleton_inj.1 (List.append_inj' h rfl).2).symm

/-- An outcome that adds a response other than DONE and REPLACED adds nothing else. -/
theorem State.RequestOutcome.refusal_adds_response_only {s t : State} (h : s.RequestOutcome t)
    {x : Response} (hx : t.link.responses = s.link.responses ++ [x]) (hd : x.status ≠ .done)
    (hr : x.status ≠ .replaced) :
    t = { s with link := { s.link with responses := s.link.responses ++ [x] } } := by
  cases h with
  | answered tag code st r => rw [State.eq_of_answer_responses hx]; rfl
  | done u tag code r => exact absurd (congrArg Response.status (State.eq_of_answer_responses hx)) hd
  | replaced u tag code r =>
    exact absurd (congrArg Response.status (State.eq_of_answer_responses hx)) hr
  | unanswered t h => simp [h] at hx

section
variable {s : State} {tag : Nat}

/-! ### The tests that requests share -/

theorem State.withLane_outcome {code n : Nat} {act : LaneId → State}
    (h : ∀ l, s.RequestOutcome (act l)) : s.RequestOutcome (s.withLane tag code n act) := by
  unfold State.withLane
  split
  · exact h _
  · exact .answered ..

theorem State.withSlot_outcome {code n : Nat} {act : SlotId → State}
    (h : ∀ k, s.RequestOutcome (act k)) : s.RequestOutcome (s.withSlot tag code n act) := by
  unfold State.withSlot
  split
  · exact h _
  · exact .answered ..

theorem State.withLoading_outcome {code n : Nat} {act : SlotId → State}
    (h : ∀ k, s.RequestOutcome (act k)) : s.RequestOutcome (s.withLoading tag code n act) :=
  State.withSlot_outcome fun k => by
    split
    · exact .answered ..
    · exact h k

theorem State.loadTable_outcome {α β : Type} {code : Nat} {k : SlotId} {start : Option Nat}
    {items : List α} {capacity : Nat} {parse : α → Option β} {old : List β} {ptr : Nat}
    {put : List β → Nat → PlanSlot → PlanSlot} :
    s.RequestOutcome (s.loadTable tag code k start items capacity parse old ptr put) := by
  unfold State.loadTable
  dsimp only
  split
  · exact .answered ..
  · split
    · exact .answered ..
    · split
      · exact .answered ..
      · split
        · exact .answered ..
        · exact .done ..

theorem State.readTable_outcome {α : Type} {t : List α} {fields : α → Bytes} {i : Nat} :
    s.RequestOutcome (s.readTable tag t fields i) := by
  unfold State.readTable
  split
  · exact .answered ..
  · exact .answered ..

/-! ### Requests of the lanes and the track -/

theorem State.reqLaneRun_outcome (n : Nat) : s.RequestOutcome (s.reqLaneRun tag n) :=
  State.withLane_outcome fun l => by
    cases (s.lane l).state with
    | stopped =>
      dsimp only
      split
      · exact .answered ..
      · split
        · exact .answered ..
        · exact .done ..
    | starting => exact .answered ..
    | running => exact .answered ..
    | draining => exact .answered ..
    | faulted => exact .answered ..

theorem State.reqLaneStop_outcome (n : Nat) : s.RequestOutcome (s.reqLaneStop tag n) :=
  State.withLane_outcome fun l => by
    cases (s.lane l).state with
    | starting => exact .done ..
    | running => exact .done ..
    | draining => exact .answered ..
    | stopped => exact .answered ..
    | faulted => exact .answered ..

theorem State.reqLaneClear_outcome (n : Nat) : s.RequestOutcome (s.reqLaneClear tag n) :=
  State.withLane_outcome fun l => by
    cases (s.lane l).state with
    | faulted => exact .done ..
    | stopped => exact .answered ..
    | starting => exact .answered ..
    | running => exact .answered ..
    | draining => exact .answered ..

theorem State.reqConstantsWrite_outcome (n : Nat) (items : List ConstantItem) :
    s.RequestOutcome (s.reqConstantsWrite tag n items) :=
  State.withLane_outcome fun l => by
    split
    · exact .answered ..
    · split
      · exact .answered ..
      · split
        · exact .answered ..
        · exact .done ..

theorem State.reqTrackRead_outcome (n i : Nat) : s.RequestOutcome (s.reqTrackRead tag n i) :=
  State.withLane_outcome fun l => by
    split
    · exact .answered ..
    · exact .answered ..

/-! ### Requests of the plan store -/

theorem State.reqPlanOpen_outcome (n : Nat) : s.RequestOutcome (s.reqPlanOpen tag n) :=
  State.withSlot_outcome fun k => by
    cases (s.slot k).state with
    | empty => exact .done ..
    | ready =>
      dsimp only
      split
      · exact .done ..
      · exact .answered ..
    | loading => exact .answered ..
    | checking => exact .answered ..
    | active => exact .answered ..
    | retiring => exact .answered ..

theorem State.reqLoadClasses_outcome (n : Nat) (items : List ClassItem) :
    s.RequestOutcome (s.reqLoadClasses tag n items) :=
  State.withLoading_outcome fun k => by
    split
    · exact .answered ..
    · exact .done ..

theorem State.reqLoadSettings_outcome (n : Nat) (items : List SettingItem) :
    s.RequestOutcome (s.reqLoadSettings tag n items) :=
  State.withLoading_outcome fun k => by
    split
    · exact .answered ..
    · exact .done ..

theorem State.reqPlanCheck_outcome (n : Nat) : s.RequestOutcome (s.reqPlanCheck tag n) :=
  State.withSlot_outcome fun k => by
    split
    · exact .answered ..
    · cases (s.slot k).state with
      | loading => exact .done ..
      | empty => exact .answered ..
      | checking => exact .answered ..
      | ready => exact .answered ..
      | active => exact .answered ..
      | retiring => exact .answered ..

theorem State.reqPlanSwitch_outcome (n : Nat) : s.RequestOutcome (s.reqPlanSwitch tag n) :=
  State.withSlot_outcome fun k => by
    cases (s.slot k).state with
    | ready => exact .done ..
    | retiring => exact .done ..
    | active => exact .answered ..
    | empty => exact .answered ..
    | loading => exact .answered ..
    | checking => exact .answered ..

theorem State.reqPlanRead_outcome (n t i : Nat) : s.RequestOutcome (s.reqPlanRead tag n t i) :=
  State.withSlot_outcome fun k => by
    split
    · exact State.readTable_outcome
    · exact State.readTable_outcome
    · split
      · exact .answered ..
      · exact .answered ..
    · exact State.readTable_outcome
    · exact .answered ..
    · exact .answered ..

/-! ### Requests of the hot list, the directory port and the lookup block -/

theorem State.reqHotAdd_outcome (a c : Nat) : s.RequestOutcome (s.reqHotAdd tag a c) := by
  unfold State.reqHotAdd
  split
  · exact .answered ..
  · split
    · exact .replaced ..
    · split
      · exact .done ..
      · exact .answered ..

theorem State.reqHotDelete_outcome (a : Nat) : s.RequestOutcome (s.reqHotDelete tag a) := by
  unfold State.reqHotDelete
  split
  · exact .answered ..
  · split
    · exact .done ..
    · exact .answered ..

theorem State.reqHotRead_outcome (i : Nat) : s.RequestOutcome (s.reqHotRead tag i) := by
  unfold State.reqHotRead
  split
  · exact .answered ..
  · exact .answered ..

theorem State.reqDirectorySet_outcome (b n w : Nat) :
    s.RequestOutcome (s.reqDirectorySet tag b n w) := by
  unfold State.reqDirectorySet
  split
  · exact .answered ..
  · exact .done ..

/-- A QUERY that joins the queue is answered when its lookup ends (R115). -/
@[simp] theorem State.responses_joinQuery (k : SlotId) (a : Nat) (d : Option Nat) :
    (s.joinQuery tag k a d).link.responses = s.link.responses := by
  simp [State.joinQuery]

theorem State.reqQuery_outcome (n a : Nat) (d : Option Nat) :
    s.RequestOutcome (s.reqQuery tag n a d) :=
  State.withSlot_outcome fun k => by
    split
    · exact .answered ..
    · split
      · exact .answered ..
      · split
        · exact .answered ..
        · exact .unanswered _ (State.responses_joinQuery k a d)

theorem State.reqArbiterSet_outcome (p q a : Nat) : s.RequestOutcome (s.reqArbiterSet tag p q a) := by
  unfold State.reqArbiterSet
  split
  · exact .answered ..
  · exact .done ..

/-! ### Requests of the bins, the gates and the speed monitor -/

theorem State.reqBinLimits_outcome (n b c f : Nat) : s.RequestOutcome (s.reqBinLimits tag n b c f) :=
  State.withLane_outcome fun l => by
    split
    · exact .answered ..
    · split
      · exact .answered ..
      · exact .done ..

theorem State.reqBinSwap_outcome (n b : Nat) : s.RequestOutcome (s.reqBinSwap tag n b) :=
  State.withLane_outcome fun l => by
    split
    · exact .done ..
    · split
      · exact .answered ..
      · exact .done ..

theorem State.reqGateRestore_outcome (n g : Nat) : s.RequestOutcome (s.reqGateRestore tag n g) :=
  State.withLane_outcome fun l => by
    split
    · exact .answered ..
    · exact .done ..

theorem State.reqSpeedSet_outcome (n : Nat) (items : List SpeedItem) :
    s.RequestOutcome (s.reqSpeedSet tag n items) :=
  State.withLane_outcome fun l => by
    dsimp only
    split
    · exact .answered ..
    · split
      · exact .answered ..
      · split
        · exact .answered ..
        · split
          · exact .answered ..
          · exact .done ..

/-! ### Requests of the link unit -/

theorem State.reqCountersRead_outcome (c : Nat) : s.RequestOutcome (s.reqCountersRead tag c) := by
  unfold State.reqCountersRead
  split
  · exact .answered ..
  · exact .done ..
  · exact .answered ..

/-- Every request has one of the outcomes. -/
theorem State.perform_outcome (r : Request) : s.RequestOutcome (s.perform tag r) := by
  cases r with
  | deviceStatus => exact .done ..
  | countersRead c => exact State.reqCountersRead_outcome c
  | deviceReset => exact .done ..
  | laneRun l => exact State.reqLaneRun_outcome l
  | laneStop l => exact State.reqLaneStop_outcome l
  | laneAbort l => exact State.withLane_outcome fun _ => .done ..
  | laneClear l => exact State.reqLaneClear_outcome l
  | laneStatus l => exact State.withLane_outcome fun _ => .answered ..
  | constantsWrite l xs => exact State.reqConstantsWrite_outcome l xs
  | constantsRead l => exact State.withLane_outcome fun _ => .answered ..
  | machineLock l => exact State.withLane_outcome fun _ => .done ..
  | trackRead l i => exact State.reqTrackRead_outcome l i
  | planOpen k => exact State.reqPlanOpen_outcome k
  | loadFormats k st xs => exact State.withLoading_outcome fun _ => State.loadTable_outcome
  | loadRanges k st xs => exact State.withLoading_outcome fun _ => State.loadTable_outcome
  | loadClasses k xs => exact State.reqLoadClasses_outcome k xs
  | loadDoctypes k st xs => exact State.withLoading_outcome fun _ => State.loadTable_outcome
  | loadSettings k xs => exact State.reqLoadSettings_outcome k xs
  | planCheck k => exact State.reqPlanCheck_outcome k
  | planSwitch k => exact State.reqPlanSwitch_outcome k
  | planStatus => exact .answered ..
  | planRead k t i => exact State.reqPlanRead_outcome k t i
  | hotAdd a c => exact State.reqHotAdd_outcome a c
  | hotDelete a => exact State.reqHotDelete_outcome a
  | hotClear => exact .done ..
  | hotRead i => exact State.reqHotRead_outcome i
  | directorySet b n w => exact State.reqDirectorySet_outcome b n w
  | directoryStatus => exact .answered ..
  | query k a d => exact State.reqQuery_outcome k a d
  | arbiterSet p q a => exact State.reqArbiterSet_outcome p q a
  | lookupStatus => exact .answered ..
  | gateStatus l => exact State.withLane_outcome fun _ => .answered ..
  | binLimits l b c n => exact State.reqBinLimits_outcome l b c n
  | binSwap l b => exact State.reqBinSwap_outcome l b
  | binStatus l => exact State.withLane_outcome fun _ => .answered ..
  | gateRestore l g => exact State.reqGateRestore_outcome l g
  | speedSet l xs => exact State.reqSpeedSet_outcome l xs
  | alertClear l => exact State.withLane_outcome fun _ => .done ..
  | speedRead l => exact State.withLane_outcome fun _ => .answered ..
  | unknown c => exact .answered ..
  | badLength c => exact .answered ..

end

/-- Settles O6: by the case of the request, a response other than DONE and REPLACED comes with no other
change. -/
theorem refusalChangesNothing : Obligations.RefusalChangesNothing := by
  intro tag r s x hx hd hr
  exact (State.perform_outcome r).refusal_adds_response_only hx hd hr

end Sys2Proof.Machine
end

section
/-! SUPPORT. The fault report by lane state (R16) and the fields of a faulted lane (R17), and from them
what LANE ABORT does (R15). -/

namespace Sys2Proof.Machine

/-! ### Entry into FAULTED -/

@[simp] theorem Lane.fault_state (L : Lane) (c : FaultCause) : (L.fault c).state = .faulted := rfl

@[simp] theorem Lane.fault_lastCause (L : Lane) (c : FaultCause) : (L.fault c).lastCause = some c := rfl

/-- The withdrawals that come with the entry write records alone, so state and cause stand. -/
theorem State.enterFaulted_state (s : State) (l : LaneId) (c : FaultCause) :
    ((s.enterFaulted l c).lane l).state = .faulted := by
  obtain ⟨tr, h, -⟩ := s.enterFaulted_lane l c
  exact (congrArg Lane.state h).trans (Lane.fault_state (s.lane l) c)

theorem State.enterFaulted_lastCause (s : State) (l : LaneId) (c : FaultCause) :
    ((s.enterFaulted l c).lane l).lastCause = some c := by
  obtain ⟨tr, h, -⟩ := s.enterFaulted_lane l c
  exact (congrArg Lane.lastCause h).trans (Lane.fault_lastCause (s.lane l) c)

/-! ### The fault report -/

/-- In STARTING, RUNNING and DRAINING a fault report is an entry into FAULTED. -/
theorem State.faultReport_of_active {s : State} {l : LaneId} (c : FaultCause)
    (h : (s.lane l).state = .starting ∨ (s.lane l).state = .running ∨ (s.lane l).state = .draining) :
    s.faultReport l c = s.enterFaulted l c := by
  rcases h with h | h | h
  all_goals simp [State.faultReport, h]

/-- In STOPPED and FAULTED a fault report changes nothing. -/
theorem State.faultReport_of_inactive {s : State} {l : LaneId} (c : FaultCause)
    (h : (s.lane l).state = .stopped ∨ (s.lane l).state = .faulted) : s.faultReport l c = s := by
  rcases h with h | h
  all_goals simp [State.faultReport, h]

/-! ### LANE ABORT -/

/-- In every state of the lane LANE ABORT reports the fault ABORT and is answered DONE. -/
theorem exec_laneAbort {s : State} (hs : s.TakesAtOnce) {lane : Nat} {l : LaneId}
    (hl : laneOf lane = some l) (tag : Nat) :
    exec (.laneAbort tag lane) s =
      .next ((s.faultReport l .abort).answer tag 0x12 .done []).transmit :=
  calc exec (.laneAbort tag lane) s
      = s.unlessReset (s.submit tag (.laneAbort lane)) := rfl
    _ = .next (s.reqLaneAbort tag lane).transmit := State.unlessReset_submit hs tag _
    _ = _ := by rw [State.reqLaneAbort, State.withLane_eq hl]

/-- Settles O11: LANE ABORT is the fault report ABORT, answered DONE, and the lane's state says whether
the report is an entry into FAULTED or changes nothing. -/
theorem laneAbortFaults : Obligations.LaneAbortFaults := by
  intro tag lane l s hs hl
  rw [exec_laneAbort hs hl tag]
  refine ⟨fun hactive => ⟨?_, s.enterFaulted_state l .abort, s.enterFaulted_lastCause l .abort⟩,
    fun hinactive => ?_⟩
  · rw [State.faultReport_of_active .abort hactive]
  · rw [State.faultReport_of_inactive .abort hinactive]

end Sys2Proof.Machine
end

section
/-! SUPPORT. The two check digit schemes (R55, R56): the sums of the model run along the reversed data
with a weight that steps from digit to digit; here they are sums over positions with the weight of each
position, and the check of a string is read off its data and its last digit. -/

namespace Sys2Proof.Machine

/-! ### Weighted sums by position -/

/-- The sum of the digits, the one at position i times w i. -/
def weightedSum (w : Nat → Nat) (ds : List Digit) : Nat :=
  ((List.range ds.length).map (fun i => (ds.getD i 0).val * w i)).sum

@[simp] theorem weightedSum_nil (w : Nat → Nat) : weightedSum w [] = 0 := rfl

theorem weightedSum_cons (w : Nat → Nat) (d : Digit) (ds : List Digit) :
    weightedSum w (d :: ds) = d.val * w 0 + weightedSum (fun i => w (i + 1)) ds := by
  simp [weightedSum, List.range_succ_eq_map, Function.comp_def]

/-- A sum that carries its weight along, stepping it by `next` at each digit, is the sum by position
for any weights that follow `next`; k is the position the sum has reached. -/
theorem carriedSum_eq_weightedSum {sum : List Digit → Nat → Nat} {next w : Nat → Nat}
    (sum_nil : ∀ v, sum [] v = 0)
    (sum_cons : ∀ d ds v, sum (d :: ds) v = d.val * v + sum ds (next v))
    (next_w : ∀ i, next (w i) = w (i + 1)) (ds : List Digit) (k : Nat) :
    sum ds (w k) = weightedSum (fun i => w (k + i)) ds := by
  induction ds generalizing k with
  | nil => rw [sum_nil, weightedSum_nil]
  | cons d ds ih =>
    rw [sum_cons, next_w, ih (k + 1), weightedSum_cons]
    simp only [Nat.add_zero, Nat.add_assoc, Nat.add_comm 1]

/-- The weight of MOD10-31 at a position counted from the right (R55). -/
def weight31 (i : Nat) : Nat := if i % 2 = 0 then 3 else 1

/-- The weight of MOD11-27 at a position counted from the right (R56). -/
def weight27 (i : Nat) : Nat := 2 + i % 6

theorem four_sub_weight31 (i : Nat) : 4 - weight31 i = weight31 (i + 1) := by
  unfold weight31
  rcases Nat.mod_two_eq_zero_or_one i with h | h
  all_goals simp [Nat.succ_mod_two_eq_zero_iff, h]

theorem weight27_succ (i : Nat) :
    (if weight27 i = 7 then 2 else weight27 i + 1) = weight27 (i + 1) := by
  unfold weight27
  split <;> omega

theorem sum31_eq_weightedSum (ds : List Digit) : sum31 ds 3 = weightedSum weight31 ds := by
  have h := carriedSum_eq_weightedSum (sum := sum31) (next := (4 - ·)) (fun _ => rfl)
    (fun _ _ _ => rfl) four_sub_weight31 ds 0
  simp only [Nat.zero_add] at h
  exact h

theorem sum27_eq_weightedSum (ds : List Digit) : sum27 ds 2 = weightedSum weight27 ds := by
  have h := carriedSum_eq_weightedSum (sum := sum27) (next := fun v => if v = 7 then 2 else v + 1)
    (fun _ => rfl) (fun _ _ _ => rfl) weight27_succ ds 0
  simp only [Nat.zero_add] at h
  exact h

/-! ### The check of a string -/

/-- A string passes when its scheme computes no check or computes its last digit (R54). -/
theorem checkPasses_concat_iff (scheme : CheckScheme) (data : List Digit) (d : Digit) :
    checkPasses scheme (data ++ [d]) = true ↔
      scheme = .none ∨ computedCheck scheme data = some d.val := by
  cases scheme <;> simp [checkPasses, computedCheck, eq_comm]

theorem computedCheck_mod10 (data : List Digit) :
    computedCheck .mod10 data = some ((10 - weightedSum weight31 data.reverse % 10) % 10) := by
  rw [← sum31_eq_weightedSum]
  rfl

theorem computedCheck_mod11 (data : List Digit) :
    computedCheck .mod11 data = some ((11 - weightedSum weight27 data.reverse % 11) % 11) := by
  rw [← sum27_eq_weightedSum]
  rfl

/-- Remainder 1 asks for the check 10, which is no digit (R56). -/
theorem checkPasses_mod11_of_remainder_one {data : List Digit}
    (h : weightedSum weight27 data.reverse % 11 = 1) (d : Digit) :
    checkPasses .mod11 (data ++ [d]) = false := by
  have check_ten : computedCheck .mod11 data = some 10 := by rw [computedCheck_mod11, h]
  have digit_ne_ten : 10 ≠ d.val := d.isLt.ne'
  simpa [check_ten, digit_ne_ten] using checkPasses_concat_iff .mod11 data d

/-- Settles O24: the sums of both schemes are sums by position over the reversed data, and MOD11-27
computes 10 for remainder 1. -/
theorem checkDigitSchemes : Obligations.CheckDigitSchemes := by
  intro data
  refine ⟨⟨weightedSum weight31 data.reverse, ?_, computedCheck_mod10 data⟩,
    ⟨weightedSum weight27 data.reverse, ?_, computedCheck_mod11 data,
      checkPasses_mod11_of_remainder_one⟩⟩
  · simp only [weightedSum, weight31, List.length_reverse]
  · simp only [weightedSum, weight27, List.length_reverse]

end Sys2Proof.Machine
end

section
/-! SUPPORT. The requests that open a plan slot and that switch plans (R71, R84), said once for each
state of the slot they name. -/

namespace Sys2Proof.Machine

section
variable {s : State} {slot : Nat} {k : SlotId}

/-! ### PLAN OPEN -/

/-- An EMPTY slot gets the contents R64 gives it, its reference count apart. -/
theorem State.reqPlanOpen_of_empty (hk : slotOf slot = some k) (h : (s.slot k).state = .empty)
    (tag : Nat) : s.reqPlanOpen tag slot =
      (s.setSlot k { PlanSlot.fresh .loading with refs := (s.slot k).refs }).answer
        tag 0x30 .done [] := by
  rw [State.reqPlanOpen, State.withSlot_eq hk, h]
  rfl

theorem State.reqPlanOpen_of_ready_unreferenced (hk : slotOf slot = some k)
    (h : (s.slot k).state = .ready) (hrefs : (s.slot k).refs = 0) (tag : Nat) :
    s.reqPlanOpen tag slot = (s.setSlot k (s.slot k).reopen).answer tag 0x30 .done [] := by
  rw [State.reqPlanOpen, State.withSlot_eq hk, h]
  exact if_pos hrefs

theorem State.reqPlanOpen_of_ready_referenced (hk : slotOf slot = some k)
    (h : (s.slot k).state = .ready) (hrefs : 0 < (s.slot k).refs) (tag : Nat) :
    s.reqPlanOpen tag slot = s.answer tag 0x30 .inUse [] := by
  rw [State.reqPlanOpen, State.withSlot_eq hk, h]
  exact if_neg hrefs.ne'

theorem State.reqPlanOpen_of_loading (hk : slotOf slot = some k)
    (h : (s.slot k).state = .loading) (tag : Nat) :
    s.reqPlanOpen tag slot = s.answer tag 0x30 .done [] := by
  rw [State.reqPlanOpen, State.withSlot_eq hk, h]

theorem State.reqPlanOpen_of_checking (hk : slotOf slot = some k)
    (h : (s.slot k).state = .checking) (tag : Nat) :
    s.reqPlanOpen tag slot = s.answer tag 0x30 .busy [] := by
  rw [State.reqPlanOpen, State.withSlot_eq hk, h]

theorem State.reqPlanOpen_of_active_or_retiring (hk : slotOf slot = some k)
    (h : (s.slot k).state = .active ∨ (s.slot k).state = .retiring) (tag : Nat) :
    s.reqPlanOpen tag slot = s.answer tag 0x30 .inUse [] := by
  rw [State.reqPlanOpen, State.withSlot_eq hk]
  rcases h with h | h
  all_goals rw [h]

/-! ### PLAN SWITCH -/

@[simp] theorem otherSlot_ne (k : SlotId) : otherSlot k ≠ k := by
  cases k
  all_goals decide

/-- The old ACTIVE slot loses its state to the target, and keeps all else. -/
theorem State.activate_of_other_active (h : (s.slot (otherSlot k)).state = .active) :
    s.activate k = (s.setSlot k { s.slot k with state := .active }).setSlot (otherSlot k)
      { s.slot (otherSlot k) with state := (s.slot (otherSlot k)).switchedOut } := by
  simp [State.activate, State.modSlot, h]

theorem State.activate_of_other_not_active (h : (s.slot (otherSlot k)).state ≠ .active) :
    s.activate k = s.setSlot k { s.slot k with state := .active } := by
  rw [State.activate, if_neg h, State.modSlot]

theorem State.switchReport_of_other_active (h : (s.slot (otherSlot k)).state = .active) :
    s.switchReport k = (s.slot (otherSlot k)).switchedOut.code := by
  rw [State.switchReport, if_pos h]

theorem State.switchReport_of_other_not_active (h : (s.slot (otherSlot k)).state ≠ .active) :
    s.switchReport k = 0 := by
  rw [State.switchReport, if_neg h]

theorem State.reqPlanSwitch_of_ready_or_retiring (hk : slotOf slot = some k)
    (h : (s.slot k).state = .ready ∨ (s.slot k).state = .retiring) (tag : Nat) :
    s.reqPlanSwitch tag slot = (s.activate k).answer tag 0x37 .done (u8 (s.switchReport k)) := by
  rw [State.reqPlanSwitch, State.withSlot_eq hk]
  rcases h with h | h
  all_goals rw [h]

theorem State.reqPlanSwitch_of_active (hk : slotOf slot = some k)
    (h : (s.slot k).state = .active) (tag : Nat) :
    s.reqPlanSwitch tag slot = s.answer tag 0x37 .done (u8 0) := by
  rw [State.reqPlanSwitch, State.withSlot_eq hk, h]

theorem State.reqPlanSwitch_of_empty_loading_checking (hk : slotOf slot = some k)
    (h : (s.slot k).state = .empty ∨ (s.slot k).state = .loading ∨ (s.slot k).state = .checking)
    (tag : Nat) : s.reqPlanSwitch tag slot = s.answer tag 0x37 .notReady [] := by
  rw [State.reqPlanSwitch, State.withSlot_eq hk]
  rcases h with h | h | h
  all_goals rw [h]

/-! ### The commands -/

/-- PLAN OPEN taken at once is its action, and the transmitter then takes a frame. -/
theorem exec_planOpen (hs : s.TakesAtOnce) (tag slot : Nat) :
    exec (.planOpen tag slot) s = .next (s.reqPlanOpen tag slot).transmit :=
  State.unlessReset_submit hs tag (.planOpen slot)

/-- PLAN SWITCH taken at once is its action, and the transmitter then takes a frame. -/
theorem exec_planSwitch (hs : s.TakesAtOnce) (tag slot : Nat) :
    exec (.planSwitch tag slot) s = .next (s.reqPlanSwitch tag slot).transmit :=
  State.unlessReset_submit hs tag (.planSwitch slot)

end

/-- Settles O28, by the slot's state, and in READY by its reference count. -/
theorem planOpenByState : Obligations.PlanOpenByState := by
  intro tag slot k s hs hk
  rw [exec_planOpen hs]
  refine ⟨fun hempty => ?_, fun hready => ⟨fun hnone => ?_, fun hsome => ?_⟩, fun hloading => ?_,
    fun hchecking => ?_, fun hservice => ?_⟩
  · rw [State.reqPlanOpen_of_empty hk hempty]
    rfl
  · rw [State.reqPlanOpen_of_ready_unreferenced hk hready hnone]
    rfl
  · rw [State.reqPlanOpen_of_ready_referenced hk hready hsome]
  · rw [State.reqPlanOpen_of_loading hk hloading]
  · rw [State.reqPlanOpen_of_checking hk hchecking]
  · rw [State.reqPlanOpen_of_active_or_retiring hk hservice]

/-- Settles O32, by the target's state, and where it becomes ACTIVE by whether the other slot was. -/
theorem planSwitchByState : Obligations.PlanSwitchByState := by
  intro tag slot k s hs hk
  rw [exec_planSwitch hs]
  refine ⟨fun hchecked => ⟨fun hother st hst => ?_, fun hother => ?_⟩, fun hactive => ?_,
    fun hunchecked => ?_⟩
  · obtain rfl : st = (s.slot (otherSlot k)).switchedOut := hst
    rw [State.reqPlanSwitch_of_ready_or_retiring hk hchecked, State.activate_of_other_active hother,
      State.switchReport_of_other_active hother]
  · rw [State.reqPlanSwitch_of_ready_or_retiring hk hchecked,
      State.activate_of_other_not_active hother, State.switchReport_of_other_not_active hother]
  · rw [State.reqPlanSwitch_of_active hk hactive]
  · rw [State.reqPlanSwitch_of_empty_loading_checking hk hunchecked]

end Sys2Proof.Machine
end

section
/-! SUPPORT. What a step can do, said once. While RESET is deasserted a step is a chain of events within
the part (`State.Event`); a request that is taken acts (`State.RequestAct`) and is answered, joins the
lookup queue, or resets the part. Every invariant is then proved event by event. -/

namespace Sys2Proof.Machine

/-! ### The events of a step -/

/-- One event within the part: a change that a command makes while RESET is deasserted. -/
inductive State.Event (s : State) : State → Prop where
  | entry (l : LaneId) (v : Bool) : s.Event (s.setEntry l v)
  | ready (v : Bool) : s.Event (s.setReady v)
  | pulse (l : LaneId) : s.Event (s.modLane l Lane.pulse)
  | leadingEdge (l : LaneId) (k : SlotId)
      (h : s.activeSlot = some k ∨
        ((s.lane l).state.takes = true → Config.trackCapacity ≤ (s.lane l).track.length)) :
      s.Event (s.leadingEdge l k)
  | trailingEdge (l : LaneId) : s.Event (s.trailingEdge l)
  | forcedTrail (l : LaneId) (n : Nat) : s.Event (s.forcedTrail l n)
  | readClose (l : LaneId) (n : Nat) : s.Event (s.readClose l n)
  | lastChance (l : LaneId) (n : Nat) : s.Event (s.lastChance l n)
  | fire (l : LaneId) (n : Nat) : s.Event (s.modLane l (fun L => L.fire l n))
  | release (l : LaneId) (g : Gate) (n : Nat) : s.Event (s.modLane l (fun L => L.release g n))
  | sensorArrival (l : LaneId) (g : Gate) : s.Event (s.sensorArrival l g)
  | windowClose (l : LaneId) (n : Nat) : s.Event (s.windowClose l n)
  | runoutEdge (l : LaneId) : s.Event (s.runoutEdge l)
  | runoutWindowClose (l : LaneId) (n : Nat) : s.Event (s.runoutWindowClose l n)
  | startExpires (l : LaneId) : s.Event (s.startExpires l)
  | drainExpires (l : LaneId) : s.Event (s.drainExpires l)
  | windowEnd (l : LaneId) : s.Event (s.windowEnd l)
  | checkCompletes : s.Event s.checkCompletes
  | hotStage (j : Job) (h : s.lookup.engine = some j) (hs : j.stage = .hot) : s.Event (s.hotStage j)
  | rangeStage (j : Job) (h : s.lookup.engine = some j) : s.Event (s.rangeStage j)
  | defaultStage (j : Job) (h : s.lookup.engine = some j) : s.Event (s.defaultStage j)
  | doctypeStage (j : Job) (h : s.lookup.engine = some j) : s.Event (s.doctypeStage j)
  | readyRises (w : DirWord) : s.Event (s.readyRises w)
  | readTimesOut : s.Event s.readTimesOut
  | holdRises : s.Event s.holdRises
  | holdFalls : s.Event s.holdFalls
  | count (f : DeviceCounters → DeviceCounters) : s.Event (s.countDevice f)
  | receiver (r : Receiver) : s.Event (s.setReceiver r)
  | scanReport (l : LaneId) (head : Nat) (stamp : Position) (result : Nat) (chars : Bytes) :
      s.Event (s.modLane l (fun L => L.scanReport head stamp result chars))
  | frameEnds : s.Event { s with link := { s.link with tx := none } }
  | transmit : s.Event s.transmit
  | arrives (tag : Nat) (r : Request) (h : s.link.buffer.length < Config.bufferCapacity) :
      s.Event { s with link := { s.link with buffer := s.link.buffer ++ [⟨tag, r⟩] } }
  | taken (r : BufferedRequest) (rest : List BufferedRequest) (h : s.link.buffer = r :: rest)
      (hf : s.link.freePlaces ≠ 0) :
      s.Event (({ s with link := { s.link with buffer := rest } } : State).perform r.tag r.request)

/-- A chain of events. -/
abbrev State.Chain : State → State → Prop := Relation.ReflTransGen State.Event

theorem State.Event.chain {s t : State} (h : s.Event t) : s.Chain t := .single h

/-- The requests taken at the end of an event are taken one after another. -/
theorem State.takeRequests_chain (fuel : Nat) (s : State) : s.Chain (s.takeRequests fuel) := by
  induction fuel generalizing s with
  | zero => exact .refl
  | succ fuel ih =>
    unfold State.takeRequests
    split
    · exact .refl
    · rename_i r rest hb
      split
      · exact .refl
      · rename_i hf
        exact ((State.Event.taken r rest hb hf).chain.tail .transmit).trans (ih _)

theorem State.settle_chain (s : State) : s.Chain s.settle :=
  State.Event.transmit.chain.trans (State.takeRequests_chain _ _)

theorem State.Event.settle_chain {s t : State} (h : s.Event t) : s.Chain t.settle :=
  h.chain.trans t.settle_chain

theorem State.submit_chain (s : State) (tag : Nat) (r : Request) : s.Chain (s.submit tag r) := by
  unfold State.submit
  split
  · rename_i h
    exact (State.Event.arrives tag r h).chain.trans (State.takeRequests_chain _ _)
  · exact (State.Event.count _).chain

/-! ### The chains of the commands -/

theorem State.dispatchFrame_chain (s : State) (content : Bytes) : s.Chain (s.dispatchFrame content) := by
  unfold State.dispatchFrame State.scanReport State.requestFrame
  split
  · exact .refl
  · split
    · split
      · exact (State.Event.count _).chain
      · split
        · exact (State.Event.count _).chain
        · exact (State.Event.scanReport _ _ _ _ _).chain
    · split
      · split
        · exact (State.Event.count _).chain
        · exact s.submit_chain _ _
      · exact (State.Event.count _).chain

theorem State.frameComplete_chain (s : State) (content : Bytes) (c0 c1 : Byte) :
    s.Chain (s.frameComplete content c0 c1) := by
  unfold State.frameComplete
  split
  · exact (State.Event.receiver _).chain.trans (State.dispatchFrame_chain _ _)
  · exact (State.Event.receiver _).chain.tail (.count _)

theorem State.dropLength_chain (s : State) : s.Chain s.dropLength :=
  (State.Event.receiver _).chain.tail (.count _)

theorem State.receiveByte_chain (s : State) (b : Byte) : s.Chain (s.receiveByte b) := by
  have move := fun r => (State.Event.receiver (s := s) r).chain
  unfold State.receiveByte
  split
  · split
    · exact move _
    · exact .refl
  · split
    · exact move _
    · split
      · exact .refl
      · exact move _
  · exact move _
  · split
    · exact s.dropLength_chain
    · exact move _
  · split
    · exact move _
    · exact move _
  · exact move _
  · exact s.frameComplete_chain _ _ _

theorem State.takeLengthError_chain (s : State) (b : Byte) : s.Chain (s.takeLengthError b) := by
  unfold State.takeLengthError
  split
  · split
    · exact s.dropLength_chain
    · exact .refl
  · exact .refl

theorem State.takeFrame_chain (s : State) (b : Byte) : s.Chain (s.takeFrame b) := by
  unfold State.takeFrame
  split
  · exact s.frameComplete_chain _ _ _
  · exact .refl

theorem State.gapExpires_chain (s : State) : s.Chain s.gapExpires := by
  unfold State.gapExpires
  split
  · exact .refl
  · exact (State.Event.receiver _).chain.tail (.count _)

theorem State.finishFrame_chain (s : State) : s.Chain s.finishFrame := by
  unfold State.finishFrame
  split
  · exact State.Event.frameEnds.settle_chain
  · exact .refl

/-- A stage completion acts on the engine's job, and out of its stage it does nothing. -/
theorem State.stageEnds_chain {s : State} {stage : EngineStage} {act : Job → State}
    (h : ∀ j, s.lookup.engine = some j → j.stage = stage → s.Event (act j)) :
    s.Chain (s.stageEnds stage act).settle := by
  unfold State.stageEnds
  split
  · rename_i j hj
    split
    · rename_i hs
      exact (h j hj hs).settle_chain
    · exact s.settle_chain
  · exact s.settle_chain

/-! ### What a command can do -/

/-- What a command makes of `s`: the input levels, the reset input, or a chain of events while RESET is
deasserted. -/
inductive State.Commanded (s : State) : State → Prop where
  | held (h : s.resetLine = true) : s.Commanded s
  | entry (l : LaneId) (v : Bool) : s.Commanded (s.setEntry l v)
  | ready (v : Bool) : s.Commanded (s.setReady v)
  | hold (h : s.resetLine = true) (v : Bool) : s.Commanded (s.setHold v)
  | cold : s.Commanded s.coldReset
  | released : s.Commanded s.releaseReset
  | events {t : State} (h : s.resetLine = false) (c : s.Chain t) : s.Commanded t

theorem State.commanded_of_unlessReset {s t u : State} (c : s.Chain u)
    (h : s.unlessReset u = .next t) : s.Commanded t := by
  cases hr : s.resetLine with
  | true =>
    rw [State.unlessReset_of_reset hr] at h
    cases h
    exact .held hr
  | false =>
    rw [State.unlessReset_of_not hr] at h
    cases h
    exact .events hr c

/-- A command of an input line moves the line alone while RESET is asserted. -/
theorem State.commanded_of_line {s t u v : State} (held : s.resetLine = true → s.Commanded v)
    (c : s.Chain u) (h : (if s.resetLine then .next v else .next u : Host.Outcome State Fault Refusal) =
      .next t) : s.Commanded t := by
  cases hr : s.resetLine with
  | true =>
    rw [hr] at h
    cases h
    exact held hr
  | false =>
    rw [hr] at h
    cases h
    exact .events hr c

theorem State.takeLeadingEdge_chain {s t : State} {l : LaneId}
    (h : s.takeLeadingEdge l = .next t) : s.Chain t := by
  unfold State.takeLeadingEdge at h
  split at h
  · rename_i k hk
    cases h
    exact (State.Event.leadingEdge l k (.inl hk)).settle_chain
  · split at h
    · cases h
    · rename_i hno
      cases h
      exact (State.Event.leadingEdge l .slot0 (.inr fun ht =>
        Nat.le_of_not_lt fun hlt => hno ⟨ht, hlt⟩)).settle_chain

theorem exec_commanded {c : Instr} {s t : State} (h : exec c s = .next t) : s.Commanded t := by
  cases c
  case encoderPulse l => exact s.commanded_of_unlessReset (State.Event.pulse l).chain h
  case leadingEdge l =>
    change (if s.resetLine then _ else _) = _ at h
    cases hr : s.resetLine with
    | true =>
      rw [hr] at h
      cases h
      exact .entry l true
    | false =>
      rw [hr] at h
      exact .events hr ((State.Event.entry l true).chain.trans (State.takeLeadingEdge_chain h))
  case trailingEdge l =>
    exact s.commanded_of_line (fun _ => .entry l false)
      ((State.Event.entry l false).chain.trans (State.Event.trailingEdge l).settle_chain) h
  case forcedTrail l n => exact s.commanded_of_unlessReset (State.Event.forcedTrail l n).settle_chain h
  case readClose l n => exact s.commanded_of_unlessReset (State.Event.readClose l n).settle_chain h
  case lastChance l n => exact s.commanded_of_unlessReset (State.Event.lastChance l n).settle_chain h
  case fireEvent l n => exact s.commanded_of_unlessReset (State.Event.fire l n).chain h
  case releaseEvent l g n => exact s.commanded_of_unlessReset (State.Event.release l g n).chain h
  case sensorArrival l g =>
    exact s.commanded_of_unlessReset (State.Event.sensorArrival l g).settle_chain h
  case windowClose l n => exact s.commanded_of_unlessReset (State.Event.windowClose l n).settle_chain h
  case runoutLeadingEdge l => exact s.commanded_of_unlessReset (State.Event.runoutEdge l).settle_chain h
  case runoutWindowClose l n =>
    exact s.commanded_of_unlessReset (State.Event.runoutWindowClose l n).settle_chain h
  case startTimeout l => exact s.commanded_of_unlessReset (State.Event.startExpires l).settle_chain h
  case drainTimeout l => exact s.commanded_of_unlessReset (State.Event.drainExpires l).settle_chain h
  case windowEnd l => exact s.commanded_of_unlessReset (State.Event.windowEnd l).settle_chain h
  case checkCompletion => exact s.commanded_of_unlessReset State.Event.checkCompletes.settle_chain h
  case hotStageComplete => exact s.commanded_of_unlessReset (State.stageEnds_chain .hotStage) h
  case rangeStageComplete =>
    exact s.commanded_of_unlessReset (State.stageEnds_chain fun j hj _ => .rangeStage j hj) h
  case defaultStageComplete =>
    exact s.commanded_of_unlessReset (State.stageEnds_chain fun j hj _ => .defaultStage j hj) h
  case doctypeStageComplete =>
    exact s.commanded_of_unlessReset (State.stageEnds_chain fun j hj _ => .doctypeStage j hj) h
  case readyAsserted w =>
    exact s.commanded_of_line (fun _ => .ready true) (State.Event.readyRises w).settle_chain h
  case readTimeout => exact s.commanded_of_unlessReset State.Event.readTimesOut.settle_chain h
  case holdAsserted =>
    exact s.commanded_of_line (fun hr => .hold hr true) State.Event.holdRises.settle_chain h
  case holdDeasserted =>
    exact s.commanded_of_line (fun hr => .hold hr false) State.Event.holdFalls.settle_chain h
  case lengthError b => exact s.commanded_of_unlessReset (s.takeLengthError_chain b) h
  case gapAbandon => exact s.commanded_of_unlessReset s.gapExpires_chain h
  case frameReceived b => exact s.commanded_of_unlessReset (s.takeFrame_chain b) h
  case frameSent => exact s.commanded_of_unlessReset s.finishFrame_chain h
  case byteReceived b => exact s.commanded_of_unlessReset (s.receiveByte_chain b) h
  case coldReset => cases h; exact .cold
  case resetRelease => cases h; exact .released
  case readyDeasserted => cases h; exact .ready false
  all_goals exact s.commanded_of_unlessReset (s.submit_chain _ _) h

end Sys2Proof.Machine
end

section
/-! SUPPORT. The hot list as an ascending list (R93): an account either stands in it or has one place
between the lower and the higher accounts, and the requests of the hot list (R94 to R97) are read off
that place. -/

namespace Sys2Proof.Machine

/-- The entries stand in strictly ascending account order (R93). -/
def HotAscending (hot : List HotEntry) : Prop := hot.Pairwise (fun a b => a.account < b.account)

/-! ### The place of an account -/

/-- Every entry before an entry of an ascending list is lower, and every one behind it higher. -/
theorem HotAscending.around {before after : List HotEntry} {e : HotEntry}
    (h : HotAscending (before ++ e :: after)) :
    (∀ x ∈ before, x.account < e.account) ∧ (∀ x ∈ after, e.account < x.account) := by
  obtain ⟨-, htail, hcross⟩ := List.pairwise_append.1 h
  exact ⟨fun x hx => hcross x hx e List.mem_cons_self, (List.pairwise_cons.1 htail).1⟩

/-- An entry whose account lies between the two parts of an ascending list joins them. -/
theorem HotAscending.insert {before after : List HotEntry} (e : HotEntry)
    (h : HotAscending (before ++ after)) (hb : ∀ x ∈ before, x.account < e.account)
    (ha : ∀ x ∈ after, e.account < x.account) : HotAscending (before ++ e :: after) := by
  obtain ⟨hbefore, hafter, hcross⟩ := List.pairwise_append.1 h
  refine List.pairwise_append.2 ⟨hbefore, List.pairwise_cons.2 ⟨ha, hafter⟩, fun x hx y hy => ?_⟩
  rcases List.mem_cons.1 hy with rfl | hy
  · exact hb x hx
  · exact hcross x hx y hy

theorem HotAscending.remove {before after : List HotEntry} {e : HotEntry}
    (h : HotAscending (before ++ e :: after)) : HotAscending (before ++ after) :=
  h.sublist (List.Sublist.append_left (List.sublist_cons_self e after) before)

/-- An ascending list has an account's entry, or a place for it. -/
theorem HotAscending.entry_or_place {hot : List HotEntry} (h : HotAscending hot) (account : Nat) :
    (∃ before old after, hot = before ++ ⟨account, old⟩ :: after) ∨
      ∃ before after, hot = before ++ after ∧ (∀ e ∈ before, e.account < account) ∧
        ∀ e ∈ after, account < e.account := by
  induction hot with
  | nil => exact .inr ⟨[], [], rfl, by simp, by simp⟩
  | cons e hot ih =>
    obtain ⟨hfirst, hrest⟩ := List.pairwise_cons.1 h
    rcases Nat.lt_trichotomy e.account account with hlt | heq | hgt
    · rcases ih hrest with ⟨before, old, after, rfl⟩ | ⟨before, after, rfl, hb, ha⟩
      · exact .inl ⟨e :: before, old, after, rfl⟩
      · exact .inr ⟨e :: before, after, rfl, by simpa [hlt] using hb, ha⟩
    · exact .inl ⟨[], e.cls, hot, by rw [← heq]; rfl⟩
    · refine .inr ⟨[], e :: hot, rfl, by simp, fun x hx => ?_⟩
      rcases List.mem_cons.1 hx with rfl | hx
      · exact hgt
      · exact hgt.trans (hfirst x hx)

/-! ### Index, class and place -/

theorem hotIndex_eq_some {before after : List HotEntry} {account old : Nat}
    (h : ∀ e ∈ before, e.account ≠ account) :
    hotIndex (before ++ ⟨account, old⟩ :: after) account = some before.length := by
  have hnone : before.findIdx? (fun e => decide (e.account = account)) = none := by
    simpa [List.findIdx?_eq_none_iff] using h
  simp [hotIndex, List.findIdx?_append, hnone, List.findIdx?_cons]

theorem hotClass_eq_some {before after : List HotEntry} {account old : Nat}
    (h : ∀ e ∈ before, e.account ≠ account) :
    hotClass (before ++ ⟨account, old⟩ :: after) account = some old := by
  have hnone : before.find? (fun e => decide (e.account = account)) = none := by
    simpa [List.find?_eq_none] using h
  simp [hotClass, List.find?_append, hnone]

theorem hotIndex_eq_none {hot : List HotEntry} {account : Nat} (h : ∀ e ∈ hot, e.account ≠ account) :
    hotIndex hot account = none := by
  simpa [hotIndex, List.findIdx?_eq_none_iff] using h

theorem hotInsert_between {before after : List HotEntry} {account : Nat} (cls : Nat)
    (hb : ∀ e ∈ before, e.account < account) (ha : ∀ e ∈ after, account < e.account) :
    hotPlace (before ++ after) account = before.length ∧
      hotInsert (before ++ after) account cls = before ++ ⟨account, cls⟩ :: after := by
  have hplace : hotPlace (before ++ after) account = before.length := by
    rw [hotPlace, List.takeWhile_append_of_pos (by simpa using hb)]
    cases after with
    | nil => simp
    | cons e after => simp [Nat.le_of_lt (ha e List.mem_cons_self)]
  refine ⟨hplace, ?_⟩
  rw [hotInsert, hplace, List.take_left', List.drop_left']
  all_goals rfl

/-! ### The requests -/

theorem isPlanClass_iff (c : Nat) : isPlanClass c = true ↔ 8 ≤ c ∧ c ≤ 63 := by
  simp [isPlanClass]

section
variable {s : State} {account cls : Nat} {before after : List HotEntry}

theorem State.reqHotAdd_of_bad (h : 999999999999 < account ∨ cls < 8 ∨ 63 < cls) (tag : Nat) :
    s.reqHotAdd tag account cls = s.answer tag 0x40 .badValue (u16 s.hot.length) := by
  refine if_pos ?_
  rcases h with h | h
  · exact .inl h
  · right
    rw [Bool.eq_false_iff, Ne, isPlanClass_iff]
    omega

/-- The tests of HOT ADD let an account and a class in range pass. -/
theorem not_hotAddBad (ha : account ≤ 999999999999) (h8 : 8 ≤ cls) (h63 : cls ≤ 63) :
    ¬ (Config.accountMax < account ∨ isPlanClass cls = false) := by
  rw [(isPlanClass_iff cls).2 ⟨h8, h63⟩]
  simpa [Config.accountMax] using ha

theorem State.reqHotAdd_of_present {old : Nat} (hacc : account ≤ 999999999999) (h8 : 8 ≤ cls)
    (h63 : cls ≤ 63) (hs : s.hot = before ++ ⟨account, old⟩ :: after)
    (hb : ∀ e ∈ before, e.account ≠ account) (tag : Nat) :
    s.reqHotAdd tag account cls =
      ({ s with hot := before ++ (⟨account, cls⟩ : HotEntry) :: after }).answer tag 0x40 .replaced
        (u16 before.length ++ u8 old ++ u16 s.hot.length) := by
  rw [State.reqHotAdd, if_neg (not_hotAddBad hacc h8 h63), hs, hotIndex_eq_some hb, hotClass_eq_some hb]
  simp

theorem State.reqHotAdd_of_absent (hacc : account ≤ 999999999999) (h8 : 8 ≤ cls)
    (h63 : cls ≤ 63) (hs : s.hot = before ++ after) (hb : ∀ e ∈ before, e.account < account)
    (ha : ∀ e ∈ after, account < e.account) (tag : Nat) :
    s.reqHotAdd tag account cls =
      if s.hot.length < Config.hotCapacity then
        ({ s with hot := before ++ (⟨account, cls⟩ : HotEntry) :: after }).answer tag 0x40 .done
          (u16 before.length ++ u16 (s.hot.length + 1))
      else s.answer tag 0x40 .full (u16 s.hot.length) := by
  have hnone : hotIndex s.hot account = none := hotIndex_eq_none fun e he => by
    rw [hs] at he
    rcases List.mem_append.1 he with h | h
    · exact (hb e h).ne
    · exact (ha e h).ne'
  obtain ⟨hplace, hinsert⟩ := hotInsert_between cls hb ha
  rw [State.reqHotAdd, if_neg (not_hotAddBad hacc h8 h63), hnone]
  simp only [hs, hplace, hinsert]

theorem State.reqHotDelete_of_bad (h : 999999999999 < account) (tag : Nat) :
    s.reqHotDelete tag account = s.answer tag 0x41 .badValue (u16 s.hot.length) := if_pos h

theorem State.reqHotDelete_of_present {old : Nat} (hacc : account ≤ 999999999999)
    (hs : s.hot = before ++ ⟨account, old⟩ :: after) (hb : ∀ e ∈ before, e.account ≠ account)
    (tag : Nat) :
    s.reqHotDelete tag account = ({ s with hot := before ++ after }).answer tag 0x41 .done
      (u8 old ++ u16 before.length ++ u16 (s.hot.length - 1)) := by
  rw [State.reqHotDelete, if_neg (show ¬ Config.accountMax < account from Nat.not_lt.2 hacc), hs, hotIndex_eq_some hb, hotClass_eq_some hb]
  simp [List.eraseIdx_append_of_length_le]

theorem State.reqHotDelete_of_absent (hacc : account ≤ 999999999999)
    (h : ∀ e ∈ s.hot, e.account ≠ account) (tag : Nat) :
    s.reqHotDelete tag account = s.answer tag 0x41 .notFound (u16 s.hot.length) := by
  rw [State.reqHotDelete, if_neg (show ¬ Config.accountMax < account from Nat.not_lt.2 hacc), hotIndex_eq_none h]

theorem State.reqHotRead_of_some {e : HotEntry} {index : Nat} (h : s.hot[index]? = some e) (tag : Nat) :
    s.reqHotRead tag index =
      s.answer tag 0x43 .done (u40 e.account ++ u8 e.cls ++ u16 s.hot.length) := by
  rw [State.reqHotRead, h]

theorem State.reqHotRead_of_none {index : Nat} (h : s.hot.length ≤ index) (tag : Nat) :
    s.reqHotRead tag index = s.answer tag 0x43 .badIndex (u16 s.hot.length) := by
  rw [State.reqHotRead, List.getElem?_eq_none h]

end

/-- Settles O34: on an ascending list an account's entry or its place is found where R94 puts it. -/
theorem hotListRequests : Obligations.HotListRequests := by
  have ne_of_entry : ∀ {hot before after : List HotEntry} {e : HotEntry}, HotAscending hot →
      hot = before ++ e :: after → ∀ x ∈ before, x.account ≠ e.account := by
    rintro hot before after e h rfl x hx
    exact (h.around.1 x hx).ne
  refine ⟨fun tag account cls s hs hasc => ?_, fun tag account index s hs hasc => ?_⟩
  · rw [show exec (.hotAdd tag account cls) s = .next (s.reqHotAdd tag account cls).transmit from
      State.unlessReset_submit hs tag (.hotAdd account cls)]
    refine ⟨fun hbad => ?_, fun hacc h8 h63 => ⟨fun before old after he => ?_,
      fun before after he hb ha => ⟨fun hroom => ?_, fun hfull => ?_⟩⟩⟩
    · rw [State.reqHotAdd_of_bad hbad]
    · rw [State.reqHotAdd_of_present hacc h8 h63 he (ne_of_entry hasc he)]
    · rw [State.reqHotAdd_of_absent hacc h8 h63 he hb ha, if_pos (show _ < Config.hotCapacity from hroom)]
    · rw [State.reqHotAdd_of_absent hacc h8 h63 he hb ha, if_neg (show ¬ _ < Config.hotCapacity from hfull.not_gt)]
  · rw [show exec (.hotDelete tag account) s = .next (s.reqHotDelete tag account).transmit from
        State.unlessReset_submit hs tag (.hotDelete account),
      show exec (.hotRead tag index) s = .next (s.reqHotRead tag index).transmit from
        State.unlessReset_submit hs tag (.hotRead index)]
    refine ⟨fun hbad => ?_, fun hacc => ⟨fun before cls after he => ?_, fun habsent => ?_⟩,
      State.unlessReset_submit hs tag .hotClear, fun e he => ?_, fun hbeyond => ?_⟩
    · rw [State.reqHotDelete_of_bad hbad]
    · rw [State.reqHotDelete_of_present hacc he (ne_of_entry hasc he)]
    · rw [State.reqHotDelete_of_absent hacc habsent]
    · rw [State.reqHotRead_of_some he]
    · rw [State.reqHotRead_of_none hbeyond]

end Sys2Proof.Machine
end

section
/-! SUPPORT. What a request that is taken can do (R194), said once for each request: it acts and is
answered, joins the lookup queue as a QUERY, or resets the part. -/

namespace Sys2Proof.Machine

/-- What a request's action makes of `s` before its answer. -/
inductive State.RequestAct (s : State) : State → Prop where
  | unchanged : s.RequestAct s
  | coldStart : s.RequestAct { s with link := { s.link with coldStart := false } }
  | clearCounters : s.RequestAct s.clearCounters
  | startLane (l : LaneId) (hs : (s.lane l).state = .stopped) (ha : s.activeSlot ≠ none) :
      s.RequestAct ((s.modLane l Lane.start).enterLane l .starting .run)
  | startDrain (l : LaneId) (hs : (s.lane l).state = .starting ∨ (s.lane l).state = .running) :
      s.RequestAct (s.startDrain l)
  | abort (l : LaneId) : s.RequestAct (s.faultReport l .abort)
  | clearLane (l : LaneId) (hs : (s.lane l).state = .faulted) : s.RequestAct (s.clearLane l)
  | lane (l : LaneId) (f : Lane → Lane) (hs : (s.lane l).Sound → (f (s.lane l)).Sound)
      (ht : (f (s.lane l)).state = (s.lane l).state) : s.RequestAct (s.modLane l f)
  | bin (l : LaneId) (g : Gate) (f : Bin → Bin) :
      s.RequestAct ((s.modLane l (fun L => L.modBin g f)).deriveBins l (s.lane l))
  | openEmpty (k : SlotId) (h : (s.slot k).state = .empty) :
      s.RequestAct (s.modSlot k (fun x => { PlanSlot.fresh .loading with refs := x.refs }))
  | reopen (k : SlotId) (h : (s.slot k).state = .ready) (hr : (s.slot k).refs = 0) :
      s.RequestAct (s.modSlot k PlanSlot.reopen)
  | load (k : SlotId) (f : PlanSlot → PlanSlot) (hs : (f (s.slot k)).state = (s.slot k).state)
      (hf : (s.slot k).Sound → (f (s.slot k)).Sound) : s.RequestAct (s.modSlot k f)
  | startCheck (k : SlotId) (h : (s.slot k).state = .loading) (hc : s.checker = none) :
      s.RequestAct (s.startCheck k)
  | activate (k : SlotId) (h : (s.slot k).state = .ready ∨ (s.slot k).state = .retiring) :
      s.RequestAct (s.activate k)
  | hot (hot : List HotEntry) (h : s.HotOrdered → ({ s with hot := hot } : State).HotOrdered) :
      s.RequestAct { s with hot := hot }
  | directory (base count wait : Nat) :
      s.RequestAct { s with dir := { s.dir with
        base := base, count := count, waitLimit := wait, failed := false, consecutive := 0,
        timeouts := 0 } }
  | arbiter (p0 p1 age : Nat) :
      s.RequestAct { s with lookup := { s.lookup with priority0 := p0, priority1 := p1, ageLimit := age } }

/-- What a taken request makes of `s`. -/
inductive State.Performed (s : State) : State → Prop where
  | answered {u : State} (h : s.RequestAct u) (tag code : Nat) (st : Status) (r : Bytes) :
      s.Performed (u.answer tag code st r)
  | query (tag : Nat) (k : SlotId) (a : Nat) (d : Option Nat)
      (hk : (s.slot k).state.queryable = true) (hq : s.lookup.queue.length < Config.lookupCapacity) :
      s.Performed (s.joinQuery tag k a d)
  | deviceReset (tag : Nat) : s.Performed (s.reqDeviceReset tag)

theorem State.performed_answer (s : State) (tag code : Nat) (st : Status) (r : Bytes) :
    s.Performed (s.answer tag code st r) := .answered .unchanged ..

section
variable {s : State} {tag : Nat}

/-! ### Requests of the lanes and the track -/

theorem State.withLane_performed {code n : Nat} {act : LaneId → State}
    (h : ∀ l, s.Performed (act l)) : s.Performed (s.withLane tag code n act) := by
  unfold State.withLane
  split
  · exact h _
  · exact s.performed_answer ..

theorem State.reqLaneRun_performed (n : Nat) : s.Performed (s.reqLaneRun tag n) :=
  State.withLane_performed fun l => by
    cases hs : (s.lane l).state with
    | stopped =>
      dsimp only
      split
      · exact s.performed_answer ..
      · rename_i ha
        split
        · exact s.performed_answer ..
        · exact .answered (.startLane l hs (by simpa [Option.isNone_iff_eq_none] using ha)) ..
    | starting => exact s.performed_answer ..
    | running => exact s.performed_answer ..
    | draining => exact s.performed_answer ..
    | faulted => exact s.performed_answer ..

theorem State.reqLaneStop_performed (n : Nat) : s.Performed (s.reqLaneStop tag n) :=
  State.withLane_performed fun l => by
    cases hs : (s.lane l).state with
    | starting => exact .answered (.startDrain l (.inl hs)) ..
    | running => exact .answered (.startDrain l (.inr hs)) ..
    | draining => exact s.performed_answer ..
    | stopped => exact s.performed_answer ..
    | faulted => exact s.performed_answer ..

theorem State.reqLaneClear_performed (n : Nat) : s.Performed (s.reqLaneClear tag n) :=
  State.withLane_performed fun l => by
    cases hs : (s.lane l).state with
    | faulted => exact .answered (.clearLane l hs) ..
    | stopped => exact s.performed_answer ..
    | starting => exact s.performed_answer ..
    | running => exact s.performed_answer ..
    | draining => exact s.performed_answer ..

/-- A change of a lane that leaves what its soundness speaks of alone is an action of a request. -/
theorem State.RequestAct.calm (l : LaneId) {f : Lane → Lane} (h : (s.lane l).Calm (f (s.lane l))) :
    s.RequestAct (s.modLane l f) := .lane l f h.sound h.state

theorem State.reqConstantsWrite_performed (n : Nat) (items : List ConstantItem) :
    s.Performed (s.reqConstantsWrite tag n items) :=
  State.withLane_performed fun l => by
    split
    · exact s.performed_answer ..
    · split
      · exact s.performed_answer ..
      · split
        · exact s.performed_answer ..
        · exact .answered (.calm l ⟨rfl, rfl, rfl, rfl, rfl, rfl, rfl, Nat.le_refl _⟩) ..

theorem State.reqTrackRead_performed (n i : Nat) : s.Performed (s.reqTrackRead tag n i) :=
  State.withLane_performed fun l => by
    split
    · exact s.performed_answer ..
    · exact s.performed_answer ..

/-! ### Requests of the plan store -/

theorem State.withSlot_performed {code n : Nat} {act : SlotId → State}
    (h : ∀ k, s.Performed (act k)) : s.Performed (s.withSlot tag code n act) := by
  unfold State.withSlot
  split
  · exact h _
  · exact s.performed_answer ..

/-- A load acts on a slot in LOADING alone. -/
theorem State.withLoading_performed {code n : Nat} {act : SlotId → State}
    (h : ∀ k, (s.slot k).state = .loading → s.Performed (act k)) :
    s.Performed (s.withLoading tag code n act) :=
  State.withSlot_performed fun k => by
    cases hs : (s.slot k).state with
    | loading => exact h k hs
    | empty => exact s.performed_answer ..
    | checking => exact s.performed_answer ..
    | ready => exact s.performed_answer ..
    | active => exact s.performed_answer ..
    | retiring => exact s.performed_answer ..

/-- The table a load writes stays within the capacity, and the pointer within the table. -/
theorem length_writeTable {α : Type} {old es : List α} {st capacity : Nat} (hst : st ≤ old.length)
    (hcap : st + es.length ≤ capacity) (hold : old.length ≤ capacity) :
    (writeTable old st es).length ≤ capacity ∧ st + es.length ≤ (writeTable old st es).length := by
  unfold writeTable
  split
  · rename_i he
    simp_all
  · simp only [List.length_append, List.length_take, List.length_drop]
    omega

theorem State.loadTable_performed {α β : Type} {code : Nat} {k : SlotId} {start : Option Nat}
    {items : List α} {capacity : Nat} {parse : α → Option β} {old : List β} {ptr : Nat}
    {put : List β → Nat → PlanSlot → PlanSlot}
    (hs : ∀ t p, (put t p (s.slot k)).state = (s.slot k).state)
    (hold : (s.slot k).Sound → old.length ≤ capacity)
    (hput : ∀ t p, (s.slot k).Sound → t.length ≤ capacity → p ≤ t.length → (put t p (s.slot k)).Sound) :
    s.Performed (s.loadTable tag code k start items capacity parse old ptr put) := by
  unfold State.loadTable
  dsimp only
  split
  · exact s.performed_answer ..
  · rename_i hst
    split
    · exact s.performed_answer ..
    · rename_i hcap
      split
      · exact s.performed_answer ..
      · split
        · exact s.performed_answer ..
        · refine .answered (.load k _ (hs _ _) fun sound => ?_) ..
          have hes := List.length_filterMap_le parse items
          obtain ⟨hlen, hptr⟩ := length_writeTable (es := items.filterMap parse)
            (Nat.le_of_not_lt hst) (by omega : _ ≤ capacity) (hold sound)
          exact hput _ _ sound hlen hptr

theorem State.reqLoadFormats_performed (n : Nat) (st : Option Nat) (xs : List FormatItem) :
    s.Performed (s.reqLoadFormats tag n st xs) :=
  State.withLoading_performed fun _ _ => State.loadTable_performed (fun _ _ => rfl) (fun h => h.formats)
    fun _ _ h hl hp => { h with formats := hl, formatsPtr := hp }

theorem State.reqLoadRanges_performed (n : Nat) (st : Option Nat) (xs : List RangeItem) :
    s.Performed (s.reqLoadRanges tag n st xs) :=
  State.withLoading_performed fun _ _ => State.loadTable_performed (fun _ _ => rfl) (fun h => h.ranges)
    fun _ _ h hl hp => { h with ranges := hl, rangesPtr := hp }

theorem State.reqLoadDoctypes_performed (n : Nat) (st : Option Nat) (xs : List DoctypeItem) :
    s.Performed (s.reqLoadDoctypes tag n st xs) :=
  State.withLoading_performed fun _ _ => State.loadTable_performed (fun _ _ => rfl) (fun h => h.doctypes)
    fun _ _ h hl hp => { h with doctypes := hl, doctypesPtr := hp }

theorem State.reqLoadClasses_performed (n : Nat) (items : List ClassItem) :
    s.Performed (s.reqLoadClasses tag n items) :=
  State.withLoading_performed fun k _ => by
    split
    · exact s.performed_answer ..
    · exact .answered (.load k _ rfl fun h => { h with }) ..

theorem State.reqLoadSettings_performed (n : Nat) (items : List SettingItem) :
    s.Performed (s.reqLoadSettings tag n items) :=
  State.withLoading_performed fun k _ => by
    split
    · exact s.performed_answer ..
    · exact .answered (.load k _ rfl fun h => { h with }) ..

theorem State.reqPlanOpen_performed (n : Nat) : s.Performed (s.reqPlanOpen tag n) :=
  State.withSlot_performed fun k => by
    cases hs : (s.slot k).state with
    | empty => exact .answered (.openEmpty k hs) ..
    | ready =>
      dsimp only
      split
      · rename_i hr
        exact .answered (.reopen k hs hr) ..
      · exact s.performed_answer ..
    | loading => exact s.performed_answer ..
    | checking => exact s.performed_answer ..
    | active => exact s.performed_answer ..
    | retiring => exact s.performed_answer ..

theorem State.reqPlanCheck_performed (n : Nat) : s.Performed (s.reqPlanCheck tag n) :=
  State.withSlot_performed fun k => by
    split
    · exact s.performed_answer ..
    · rename_i hc
      cases hs : (s.slot k).state with
      | loading => exact .answered (.startCheck k hs (by simpa using hc)) ..
      | empty => exact s.performed_answer ..
      | checking => exact s.performed_answer ..
      | ready => exact s.performed_answer ..
      | active => exact s.performed_answer ..
      | retiring => exact s.performed_answer ..

theorem State.reqPlanSwitch_performed (n : Nat) : s.Performed (s.reqPlanSwitch tag n) :=
  State.withSlot_performed fun k => by
    cases hs : (s.slot k).state with
    | ready => exact .answered (.activate k (.inl hs)) ..
    | retiring => exact .answered (.activate k (.inr hs)) ..
    | active => exact s.performed_answer ..
    | empty => exact s.performed_answer ..
    | loading => exact s.performed_answer ..
    | checking => exact s.performed_answer ..

theorem State.readTable_performed {α : Type} {t : List α} {fields : α → Bytes} {i : Nat} :
    s.Performed (s.readTable tag t fields i) := by
  unfold State.readTable
  split
  · exact s.performed_answer ..
  · exact s.performed_answer ..

theorem State.reqPlanRead_performed (n t i : Nat) : s.Performed (s.reqPlanRead tag n t i) :=
  State.withSlot_performed fun k => by
    split
    · exact State.readTable_performed
    · exact State.readTable_performed
    · split
      · exact s.performed_answer ..
      · exact s.performed_answer ..
    · exact State.readTable_performed
    · exact s.performed_answer ..
    · exact s.performed_answer ..

/-! ### Requests of the hot list, the directory port and the lookup block -/

/-- An entry in range that joins an ordered list at its place, or stands where its account's entry did,
keeps the list ordered. -/
theorem State.HotOrdered.put {s : State} {before after : List HotEntry} {e : HotEntry}
    (hasc : HotAscending (before ++ after)) (hlen : (before ++ e :: after).length ≤ Config.hotCapacity)
    (hb : ∀ x ∈ before, x.account < e.account) (ha : ∀ x ∈ after, e.account < x.account)
    (hold : ∀ x ∈ before ++ after, x.account ≤ Config.accountMax ∧ 8 ≤ x.cls ∧ x.cls ≤ 63)
    (he : e.account ≤ Config.accountMax ∧ 8 ≤ e.cls ∧ e.cls ≤ 63) :
    ({ s with hot := before ++ e :: after } : State).HotOrdered := by
  refine ⟨hlen, hasc.insert e hb ha, fun x hx => ?_⟩
  rcases List.mem_append.1 hx with hx | hx
  · exact hold x (List.mem_append_left _ hx)
  · rcases List.mem_cons.1 hx with rfl | hx
    · exact he
    · exact hold x (List.mem_append_right _ hx)

section
variable {a c : Nat} (he : a ≤ Config.accountMax ∧ 8 ≤ c ∧ c ≤ 63) (h : s.HotOrdered)
include he h

theorem State.HotOrdered.replace {i : Nat} (hi : hotIndex s.hot a = some i) :
    ({ s with hot := s.hot.set i ⟨a, c⟩ } : State).HotOrdered := by
  obtain ⟨hlen, hasc, hrange⟩ := h
  rcases HotAscending.entry_or_place hasc a with ⟨before, old, after, hs⟩ | ⟨before, after, hs, hb, ha⟩
  · rw [hs] at hi hasc hlen hrange ⊢
    obtain ⟨hb, ha⟩ := HotAscending.around hasc
    rw [hotIndex_eq_some fun e h => (hb e h).ne] at hi
    cases hi
    rw [show (before ++ ⟨a, old⟩ :: after).set before.length ⟨a, c⟩ = before ++ ⟨a, c⟩ :: after by simp]
    refine .put (HotAscending.remove hasc) (by simpa using hlen) hb ha (fun x hx => hrange x ?_) he
    simp only [List.mem_append, List.mem_cons] at hx ⊢
    exact hx.imp id .inr
  · rw [hotIndex_eq_none fun e h => by
      rw [hs] at h
      rcases List.mem_append.1 h with h | h
      · exact (hb e h).ne
      · exact (ha e h).ne'] at hi
    cases hi

theorem State.HotOrdered.insert (hroom : s.hot.length < Config.hotCapacity)
    (habsent : ∀ i old, hotIndex s.hot a = some i → hotClass s.hot a = some old → False) :
    ({ s with hot := hotInsert s.hot a c } : State).HotOrdered := by
  obtain ⟨hlen, hasc, hrange⟩ := h
  rcases HotAscending.entry_or_place hasc a with ⟨before, old, after, hs⟩ | ⟨before, after, hs, hb, ha⟩
  · have hb := fun e h => (HotAscending.around (hs ▸ hasc) |>.1 e h).ne
    exact (habsent _ old (by rw [hs, hotIndex_eq_some hb]) (by rw [hs, hotClass_eq_some hb])).elim
  · rw [hs] at hroom hasc hrange ⊢
    rw [(hotInsert_between c hb ha).2]
    refine .put hasc ?_ hb ha hrange he
    simp only [List.length_append, List.length_cons] at hroom ⊢
    omega

end

theorem State.reqHotAdd_performed (a c : Nat) : s.Performed (s.reqHotAdd tag a c) := by
  unfold State.reqHotAdd
  split
  · exact s.performed_answer ..
  · rename_i hok
    have he : a ≤ Config.accountMax ∧ 8 ≤ c ∧ c ≤ 63 :=
      ⟨Nat.le_of_not_lt fun h => hok (.inl h), (isPlanClass_iff c).1 (by
        cases h : isPlanClass c
        · exact absurd (.inr h) hok
        · rfl)⟩
    split
    · rename_i hi _
      exact .answered (.hot _ fun h => h.replace he hi) ..
    · rename_i habsent
      split
      · rename_i hroom
        exact .answered (.hot _ fun h => h.insert he hroom habsent) ..
      · exact s.performed_answer ..

theorem State.reqHotDelete_performed (a : Nat) : s.Performed (s.reqHotDelete tag a) := by
  unfold State.reqHotDelete
  split
  · exact s.performed_answer ..
  · split
    · rename_i i _ _ _
      refine .answered (.hot _ fun ⟨hlen, hasc, hrange⟩ => ?_) ..
      have sub := List.eraseIdx_sublist s.hot i
      exact ⟨sub.length_le.trans hlen, hasc.sublist sub, fun e he => hrange e (sub.subset he)⟩
    · exact s.performed_answer ..

theorem State.reqHotClear_performed : s.Performed (s.reqHotClear tag) :=
  .answered (.hot _ fun _ => ⟨Nat.zero_le _, .nil, by simp⟩) ..

theorem State.reqHotRead_performed (i : Nat) : s.Performed (s.reqHotRead tag i) := by
  unfold State.reqHotRead
  split
  · exact s.performed_answer ..
  · exact s.performed_answer ..

theorem State.reqDirectorySet_performed (b n w : Nat) : s.Performed (s.reqDirectorySet tag b n w) := by
  unfold State.reqDirectorySet
  split
  · exact s.performed_answer ..
  · exact .answered (.directory b n w) ..

theorem State.reqQuery_performed (n a : Nat) (d : Option Nat) : s.Performed (s.reqQuery tag n a d) :=
  State.withSlot_performed fun k => by
    split
    · exact s.performed_answer ..
    · split
      · exact s.performed_answer ..
      · rename_i hk
        split
        · exact s.performed_answer ..
        · rename_i hq
          exact .query tag k a d (by simpa using hk) (Nat.lt_of_not_le hq)

theorem State.reqArbiterSet_performed (p q a : Nat) : s.Performed (s.reqArbiterSet tag p q a) := by
  unfold State.reqArbiterSet
  split
  · exact s.performed_answer ..
  · exact .answered (.arbiter p q a) ..

/-! ### Requests of the bins, the gates and the speed monitor -/

theorem State.reqBinLimits_performed (n b c f : Nat) : s.Performed (s.reqBinLimits tag n b c f) :=
  State.withLane_performed fun l => by
    split
    · exact s.performed_answer ..
    · split
      · exact s.performed_answer ..
      · exact .answered (.bin l _ _) ..

theorem State.reqBinSwap_performed (n b : Nat) : s.Performed (s.reqBinSwap tag n b) :=
  State.withLane_performed fun l => by
    split
    · exact .answered (.calm l ⟨rfl, rfl, rfl, rfl, rfl, rfl, rfl, Nat.le_refl _⟩) ..
    · split
      · exact s.performed_answer ..
      · exact .answered (.bin l _ _) ..

theorem State.reqGateRestore_performed (n g : Nat) : s.Performed (s.reqGateRestore tag n g) :=
  State.withLane_performed fun l => by
    split
    · exact s.performed_answer ..
    · exact .answered (.bin l _ _) ..

/-- A mode written by SPEED SET leaves the latch as R181 and R182 ask. -/
theorem SpeedMonitor.setMode_latch {m : SpeedMonitor} (mode : AlertMode)
    (hl : m.latch = true → m.mode = .latch) (hc : m.mode = .latch → m.crit = true → m.latch = true) :
    ((m.setMode mode).latch = true → (m.setMode mode).mode = .latch) ∧
      ((m.setMode mode).mode = .latch → (m.setMode mode).crit = true → (m.setMode mode).latch = true) := by
  unfold SpeedMonitor.setMode
  split
  · exact ⟨hl, hc⟩
  · simp +contextual

theorem SpeedMonitor.write_sound {L : Lane} (h : L.Sound) (items : List SpeedItem) :
    ({ L with speed := L.speed.write items } : Lane).Sound := by
  obtain ⟨h1, h2⟩ := SpeedMonitor.setMode_latch (m := { L.speed with
    nextWindow := lastValue items 1 L.speed.nextWindow
    lowLimit := lastValue items 2 L.speed.lowLimit
    highLimit := lastValue items 3 L.speed.highLimit
    critLimit := lastValue items 4 L.speed.critLimit
    hysteresis := lastValue items 5 L.speed.hysteresis }) (lastMode items L.speed.mode) h.latch h.crit
  exact Lane.speed_sound h _ rfl h1 h2

theorem SpeedMonitor.clearAlert_sound {L : Lane} (h : L.Sound) :
    ({ L with speed := L.speed.clearAlert } : Lane).Sound := by
  unfold SpeedMonitor.clearAlert
  split
  · rename_i hm
    refine Lane.speed_sound h _ ?_ (fun e => by cases e) fun _ hc => ?_
    · simp [SpeedMonitor.alertLevel, hm.1]
    · exact absurd hc (by simp [hm.2])
  · exact h

theorem State.reqSpeedSet_performed (n : Nat) (items : List SpeedItem) :
    s.Performed (s.reqSpeedSet tag n items) :=
  State.withLane_performed fun l => by
    dsimp only
    split
    · exact s.performed_answer ..
    · split
      · exact s.performed_answer ..
      · split
        · exact s.performed_answer ..
        · split
          · exact s.performed_answer ..
          · exact .answered (.lane l _ (fun h => SpeedMonitor.write_sound h items) rfl) ..

/-! ### Requests of the link unit -/

theorem State.reqCountersRead_performed (c : Nat) : s.Performed (s.reqCountersRead tag c) := by
  unfold State.reqCountersRead
  split
  · exact s.performed_answer ..
  · exact .answered .clearCounters ..
  · exact s.performed_answer ..

/-- Every request does one of these things. -/
theorem State.perform_performed (r : Request) : s.Performed (s.perform tag r) := by
  cases r with
  | deviceStatus => exact .answered .coldStart ..
  | countersRead c => exact State.reqCountersRead_performed c
  | deviceReset => exact .deviceReset tag
  | laneRun l => exact State.reqLaneRun_performed l
  | laneStop l => exact State.reqLaneStop_performed l
  | laneAbort l => exact State.withLane_performed fun l => .answered (.abort l) ..
  | laneClear l => exact State.reqLaneClear_performed l
  | laneStatus l => exact State.withLane_performed fun _ => s.performed_answer ..
  | constantsWrite l xs => exact State.reqConstantsWrite_performed l xs
  | constantsRead l => exact State.withLane_performed fun _ => s.performed_answer ..
  | machineLock l =>
    exact State.withLane_performed fun l =>
      .answered (.calm l ⟨rfl, rfl, rfl, rfl, rfl, rfl, rfl, Nat.le_refl _⟩) ..
  | trackRead l i => exact State.reqTrackRead_performed l i
  | planOpen k => exact State.reqPlanOpen_performed k
  | loadFormats k st xs => exact State.reqLoadFormats_performed k st xs
  | loadRanges k st xs => exact State.reqLoadRanges_performed k st xs
  | loadClasses k xs => exact State.reqLoadClasses_performed k xs
  | loadDoctypes k st xs => exact State.reqLoadDoctypes_performed k st xs
  | loadSettings k xs => exact State.reqLoadSettings_performed k xs
  | planCheck k => exact State.reqPlanCheck_performed k
  | planSwitch k => exact State.reqPlanSwitch_performed k
  | planStatus => exact s.performed_answer ..
  | planRead k t i => exact State.reqPlanRead_performed k t i
  | hotAdd a c => exact State.reqHotAdd_performed a c
  | hotDelete a => exact State.reqHotDelete_performed a
  | hotClear => exact State.reqHotClear_performed
  | hotRead i => exact State.reqHotRead_performed i
  | directorySet b n w => exact State.reqDirectorySet_performed b n w
  | directoryStatus => exact s.performed_answer ..
  | query k a d => exact State.reqQuery_performed k a d
  | arbiterSet p q a => exact State.reqArbiterSet_performed p q a
  | lookupStatus => exact s.performed_answer ..
  | gateStatus l => exact State.withLane_performed fun _ => s.performed_answer ..
  | binLimits l b c n => exact State.reqBinLimits_performed l b c n
  | binSwap l b => exact State.reqBinSwap_performed l b
  | binStatus l => exact State.withLane_performed fun _ => s.performed_answer ..
  | gateRestore l g => exact State.reqGateRestore_performed l g
  | speedSet l xs => exact State.reqSpeedSet_performed l xs
  | alertClear l =>
    exact State.withLane_performed fun l => .answered (.lane l _ SpeedMonitor.clearAlert_sound rfl) ..
  | speedRead l => exact State.withLane_performed fun _ => s.performed_answer ..
  | unknown c => exact s.performed_answer ..
  | badLength c => exact s.performed_answer ..

end

end Sys2Proof.Machine
end

section
/-! SUPPORT. Every event but three is a mild change (Laws/Keeps) and leaves hot list, checker and RESET
alone; the three others take a reference for a new record, end a check, and take a request. A predicate
that every event and the reset input keep is kept by every step. -/

namespace Sys2Proof.Machine

/-! ### What nearly every event leaves alone -/

/-- Hot list, checker and RESET stand as they did. -/
structure State.Fixed (s t : State) : Prop where
  hot : t.hot = s.hot
  checker : t.checker = s.checker
  resetLine : t.resetLine = s.resetLine

theorem State.Fixed.refl (s : State) : s.Fixed s := ⟨rfl, rfl, rfl⟩

theorem State.Fixed.trans {s t u : State} (h : s.Fixed t) (k : t.Fixed u) : s.Fixed u :=
  ⟨k.hot.trans h.hot, k.checker.trans h.checker, k.resetLine.trans h.resetLine⟩

theorem State.WideFrame.fixed {s t : State} (h : s.WideFrame t) : s.Fixed t :=
  ⟨h.hot, h.checker, h.resetLine⟩

theorem State.Frame.fixed {s t : State} (h : s.Frame t) : s.Fixed t := h.wide.fixed

theorem State.dir_fixed (s : State) (d : Directory) : s.Fixed { s with dir := d } := ⟨rfl, rfl, rfl⟩

theorem State.link_fixed (s : State) (k : Link) : s.Fixed { s with link := k } := ⟨rfl, rfl, rfl⟩

/-! ### The engine and the port -/

theorem State.afterHot_fixed (s : State) (j : Job) : s.Fixed (s.afterHot j) := by
  unfold State.afterHot
  split
  · unfold State.askDirectory
    split
    · split
      · exact (s.directoryResult_wideFrame j _).fixed
      · exact (s.setJob_frame _).fixed.trans (State.dir_fixed _ _)
    · exact (s.dir_fixed _).trans (State.directoryResult_wideFrame _ j _).fixed
    · exact (s.setJob_frame _).fixed
    · exact (s.setJob_frame _).fixed
  · exact (s.setJob_frame _).fixed

theorem State.hotStage_fixed (s : State) (j : Job) : s.Fixed (s.hotStage j) := by
  unfold State.hotStage
  split
  · split
    · exact (s.endLookup_wideFrame _).fixed
    · exact s.afterHot_fixed _
  · exact s.afterHot_fixed _

theorem State.rangeStage_frame (s : State) (j : Job) : s.Frame (s.rangeStage j) := by
  unfold State.rangeStage
  split
  · exact s.setJob_frame _
  · exact s.setJob_frame _

theorem State.endSearch_fixed (s : State) (r : SearchResult) : s.Fixed (s.endSearch r) :=
  ((s.dir_fixed _).trans (State.handResult_wideFrame _ r).fixed).trans (State.holdNotice_frame _ _).fixed

/-- A complete probe ends the search or begins the next word read (R102, R107). -/
theorem State.probeComplete_ends_or_reads (s : State) (q : Search) (w0 w1 : DirWord) :
    (∃ r, s.probeComplete q w0 w1 = ({ s with dir := { s.dir with consecutive := 0 } }).endSearch r) ∨
      s.dir.port ≠ .yielding ∧ ∃ q', s.probeComplete q w0 w1 =
        { s with dir := { s.dir with consecutive := 0 }.startRead q' } := by
  unfold State.probeComplete
  dsimp only
  generalize (if q.account < entryAccount w0 w1 then _ else _ : Search) = q'
  split
  · exact .inl ⟨_, rfl⟩
  · rename_i hy
    split
    · exact .inl ⟨_, rfl⟩
    · split
      · exact .inl ⟨_, rfl⟩
      · exact .inr ⟨hy, _, rfl⟩

theorem State.probeComplete_fixed (s : State) (q : Search) (w0 w1 : DirWord) :
    s.Fixed (s.probeComplete q w0 w1) := by
  rcases s.probeComplete_ends_or_reads q w0 w1 with ⟨r, e⟩ | ⟨-, q', e⟩ <;> rw [e]
  · exact (s.dir_fixed _).trans (State.endSearch_fixed _ r)
  · exact s.dir_fixed _

theorem State.wordRead_fixed (s : State) (w : DirWord) : s.Fixed (s.wordRead w) := by
  unfold State.wordRead
  split
  · exact .refl s
  · split
    · exact s.dir_fixed _
    · exact s.probeComplete_fixed _ _ _

theorem State.readyRises_fixed (s : State) (w : DirWord) : s.Fixed (s.readyRises w) := by
  unfold State.readyRises
  split
  · exact .refl s
  · dsimp only
    split
    · exact (s.dir_fixed { s.dir with readyLine := true }).trans (State.wordRead_fixed _ w)
    · exact s.dir_fixed _

theorem State.searchTimeout_fixed (s : State) : s.Fixed s.searchTimeout := by
  unfold State.searchTimeout
  dsimp only
  refine State.Fixed.trans ?_ (State.holdNotice_frame _ _).fixed
  refine State.Fixed.trans ?_ (State.handResult_wideFrame _ _).fixed
  have h := fun n => (s.dir_fixed (s.dir.countTimeout.afterSearch false)).trans (State.raise_frame _ n).fixed
  split
  · exact (h _).trans (State.raise_frame _ _).fixed
  · exact h _

theorem State.readTimesOut_fixed (s : State) : s.Fixed s.readTimesOut := by
  unfold State.readTimesOut
  split
  · exact s.searchTimeout_fixed
  · exact .refl s

theorem State.readTimesOut_mild (s : State) : s.Mild s.readTimesOut := by
  unfold State.readTimesOut
  split
  · exact s.searchTimeout_mild
  · exact .refl s

theorem State.holdRises_fixed (s : State) : s.Fixed s.holdRises := by
  unfold State.holdRises
  split
  · exact (s.dir_fixed _).trans (State.raise_frame _ _).fixed
  all_goals exact s.dir_fixed _

theorem State.holdRises_mild (s : State) : s.Mild s.holdRises := by
  unfold State.holdRises
  split
  · exact (s.dir_mild _).trans (State.raise_mild _ _)
  all_goals exact s.dir_mild _

theorem State.holdFalls_fixed (s : State) : s.Fixed s.holdFalls := by
  unfold State.holdFalls
  split
  · exact (s.dir_fixed _).trans (State.raise_frame _ _).fixed
  all_goals exact s.dir_fixed _

theorem State.holdFalls_mild (s : State) : s.Mild s.holdFalls := by
  unfold State.holdFalls
  split
  · exact (s.dir_mild _).trans (State.raise_mild _ _)
  all_goals exact s.dir_mild _

theorem State.hotStage_mild (s : State) (j : Job) : s.Mild (s.hotStage j) := by
  unfold State.hotStage
  split
  · split
    · exact s.endLookup_mild _
    · exact s.afterHot_mild _
  · exact s.afterHot_mild _

theorem State.rangeStage_mild (s : State) (j : Job) : s.Mild (s.rangeStage j) := by
  unfold State.rangeStage
  split
  · exact s.setJob_mild _
  · exact s.setJob_mild _

/-! ### Fire and release -/

/-- A gate whose hold set and output are written together stands as R146 asks. -/
theorem Lane.setHolds_sound {L : Lane} (h : L.Sound) (hs : L.state.takes = true) (g : Gate)
    (hs' : List Hold) (b : Bool) (hb : b = !hs'.isEmpty) (tr : List Piece)
    (htr : tr.length = L.track.length) :
    ({ L with
      track := tr
      holds := L.holds.set g.val hs'
      gateOut := L.gateOut.set g.val b } : Lane).Sound where
  run := h.run
  startTimer := h.startTimer
  drainTimer := h.drainTimer
  stopped := fun e => by rw [e] at hs; cases hs
  track := htr ▸ h.track
  gates := fun g' => by
    by_cases e : g.val = g'.val
    · simp only [e, Vector.getElem_set_self, hb]
    · simp only [Vector.getElem_set_ne _ _ e]
      exact h.gates g'
  closed := fun e => by rcases e with e | e <;> (rw [e] at hs; cases hs)
  alert := h.alert
  latch := h.latch
  crit := h.crit

theorem Lane.fire_state (L : Lane) (l : LaneId) (n : Nat) : (L.fire l n).state = L.state := by
  unfold Lane.fire
  split
  · rfl
  · split
    · rfl
    · split
      · split
        · rfl
        · rfl
      · rfl

theorem Lane.release_state (L : Lane) (g : Gate) (n : Nat) : (L.release g n).state = L.state := by
  unfold Lane.release
  split
  · rfl
  · split
    · rfl
    · rfl

/-- A lane in neither STOPPED nor FAULTED takes letters. -/
theorem LaneState.takes_of_open {st : LaneState} (hs : st ≠ .stopped) (hf : st ≠ .faulted) :
    st.takes = true := by
  cases st
  case stopped => exact absurd rfl hs
  case faulted => exact absurd rfl hf
  all_goals rfl

theorem Lane.fire_sound {L : Lane} (h : L.Sound) (l : LaneId) (n : Nat) : (L.fire l n).Sound := by
  unfold Lane.fire
  split
  · exact h
  · rename_i hf
    split
    · exact h
    · rename_i p hp
      have hs : L.state ≠ .stopped := fun e => by simp [Lane.piece, h.stopped e] at hp
      split
      · split
        · rename_i g f r _ _ _
          exact Lane.setHolds_sound h (LaneState.takes_of_open hs hf) g
            (L.holds[g.val] ++ [⟨l, n, f, r⟩]) true (by simp) _ (List.length_map _)
        · exact h
      · exact h

theorem Lane.release_sound {L : Lane} (h : L.Sound) (g : Gate) (n : Nat) : (L.release g n).Sound := by
  unfold Lane.release
  split
  · exact h
  · rename_i hf
    split
    · exact h
    · rename_i x hx
      have hs : L.state ≠ .stopped := fun e => by
        have hg := h.gates g
        rw [h.closed (.inl e) g] at hg
        have hnil : L.holds[g.val] = [] := by simpa using hg
        simp [hnil] at hx
      exact Lane.setHolds_sound h (LaneState.takes_of_open hs hf) g (L.holds[g.val].erase x) _ rfl _ rfl

/-! ### The events -/

/-- The three events that are not mild. -/
inductive State.PlanEvent (s : State) : State → Prop where
  | leadingEdge (l : LaneId) (k : SlotId)
      (h : s.activeSlot = some k ∨
        ((s.lane l).state.takes = true → Config.trackCapacity ≤ (s.lane l).track.length)) :
      s.PlanEvent (s.leadingEdge l k)
  | checkCompletes : s.PlanEvent s.checkCompletes
  | taken (r : BufferedRequest) (rest : List BufferedRequest) (h : s.link.buffer = r :: rest)
      (hf : s.link.freePlaces ≠ 0) {t : State}
      (ht : ({ s with link := { s.link with buffer := rest } } : State).Performed t) : s.PlanEvent t

theorem State.Event.mild_or_plan {s t : State} (e : s.Event t) :
    (s.Mild t ∧ s.Fixed t) ∨ s.PlanEvent t := by
  cases e with
  | leadingEdge l k h => exact .inr (.leadingEdge l k h)
  | checkCompletes => exact .inr .checkCompletes
  | taken r rest h hf => exact .inr (.taken r rest h hf (State.perform_performed _))
  | entry l v =>
    exact .inl ⟨s.calm_mild l _ ⟨rfl, rfl, rfl, rfl, rfl, rfl, rfl, Nat.le_refl _⟩,
      (s.modLane_frame l _).fixed⟩
  | ready v => exact .inl ⟨s.dir_mild _, s.dir_fixed _⟩
  | pulse l =>
    exact .inl ⟨s.modLane_mild l _ (fun h => ⟨h.run, h.startTimer, h.drainTimer, h.stopped, h.track,
      h.gates, h.closed, h.alert, h.latch, h.crit⟩) id, (s.modLane_frame l _).fixed⟩
  | trailingEdge l => exact .inl ⟨s.trailingEdge_mild l, (s.trailingEdge_frame l).fixed⟩
  | forcedTrail l n => exact .inl ⟨s.forcedTrail_mild l n, (s.forcedTrail_frame l n).fixed⟩
  | readClose l n => exact .inl ⟨s.readClose_mild l n, (s.readClose_frame l n).fixed⟩
  | lastChance l n => exact .inl ⟨s.lastChance_mild l n, (s.lastChance_frame l n).fixed⟩
  | fire l n =>
    exact .inl ⟨s.modLane_mild l _ (fun h => Lane.fire_sound h l n) (by rw [Lane.fire_state]; exact id),
      (s.modLane_frame l _).fixed⟩
  | release l g n =>
    exact .inl ⟨s.modLane_mild l _ (fun h => Lane.release_sound h g n) (by rw [Lane.release_state]; exact id),
      (s.modLane_frame l _).fixed⟩
  | sensorArrival l g => exact .inl ⟨s.sensorArrival_mild l g, (s.sensorArrival_frame l g).fixed⟩
  | windowClose l n => exact .inl ⟨s.windowClose_mild l n, (s.windowClose_frame l n).fixed⟩
  | runoutEdge l => exact .inl ⟨s.runoutEdge_mild l, (s.runoutEdge_frame l).fixed⟩
  | runoutWindowClose l n =>
    exact .inl ⟨s.runoutWindowClose_mild l n, (s.runoutWindowClose_frame l n).fixed⟩
  | startExpires l => exact .inl ⟨s.startExpires_mild l, (s.startExpires_frame l).fixed⟩
  | drainExpires l => exact .inl ⟨s.drainExpires_mild l, (s.drainExpires_frame l).fixed⟩
  | windowEnd l => exact .inl ⟨s.windowEnd_mild l, (s.windowEnd_frame l).fixed⟩
  | hotStage j => exact .inl ⟨s.hotStage_mild j, s.hotStage_fixed j⟩
  | rangeStage j => exact .inl ⟨s.rangeStage_mild j, (s.rangeStage_frame j).fixed⟩
  | defaultStage j => exact .inl ⟨s.setJob_mild _, (s.setJob_frame _).fixed⟩
  | doctypeStage j => exact .inl ⟨s.endLookup_mild _, (s.endLookup_wideFrame _).fixed⟩
  | readyRises w => exact .inl ⟨s.readyRises_mild w, s.readyRises_fixed w⟩
  | readTimesOut => exact .inl ⟨s.readTimesOut_mild, s.readTimesOut_fixed⟩
  | holdRises => exact .inl ⟨s.holdRises_mild, s.holdRises_fixed⟩
  | holdFalls => exact .inl ⟨s.holdFalls_mild, s.holdFalls_fixed⟩
  | count f => exact .inl ⟨s.countDevice_mild f, (s.countDevice_frame f).fixed⟩
  | receiver r => exact .inl ⟨s.link_mild _, s.link_fixed _⟩
  | scanReport l a b c d =>
    exact .inl ⟨s.calm_mild l _ (Lane.scanReport_calm _ a b c d), (s.modLane_frame l _).fixed⟩
  | frameEnds => exact .inl ⟨s.link_mild _, s.link_fixed _⟩
  | transmit => exact .inl ⟨s.transmit_mild, s.link_fixed _⟩
  | arrives tag r h => exact .inl ⟨s.link_mild _, s.link_fixed _⟩

/-! ### RESET -/

theorem State.RequestAct.resetLine {s t : State} (h : s.RequestAct t) : t.resetLine = s.resetLine := by
  cases h with
  | unchanged => rfl
  | coldStart => rfl
  | clearCounters => simp [State.clearCounters, State.countLane]
  | startLane l => exact ((s.modLane_frame l _).trans (State.enterLane_frame _ l _ _)).resetLine
  | startDrain l => exact (s.startDrain_frame l).resetLine
  | abort l => exact (s.faultReport_frame l _).resetLine
  | clearLane l => exact (s.clearLane_frame l).resetLine
  | lane l f => simp
  | bin l g f => exact ((s.modLane_frame l _).trans (State.deriveBins_frame _ l _)).resetLine
  | openEmpty k => simp
  | reopen k => simp
  | load k f => simp
  | startCheck k => simp [State.startCheck]
  | activate k =>
    unfold State.activate
    dsimp only
    split <;> simp
  | hot => rfl
  | directory => rfl
  | arbiter => rfl

theorem State.Performed.resetLine {s t : State} (h : s.Performed t) : t.resetLine = s.resetLine := by
  cases h with
  | answered h => exact h.resetLine
  | query tag k a d => exact (State.grant_frame _).resetLine.trans (s.takeRef_frame k).resetLine
  | deviceReset tag => rfl

theorem State.checkCompletes_resetLine (s : State) : s.checkCompletes.resetLine = s.resetLine := by
  unfold State.checkCompletes
  split
  · rfl
  · simp

theorem State.leadingEdge_resetLine (s : State) (l : LaneId) (k : SlotId) :
    (s.leadingEdge l k).resetLine = s.resetLine := (s.leadingEdge_frame l k).resetLine

theorem State.Event.resetLine {s t : State} (e : s.Event t) : t.resetLine = s.resetLine := by
  rcases e.mild_or_plan with ⟨-, f⟩ | ⟨l, k, -⟩ | _ | ⟨r, rest, -, -, h⟩
  · exact f.resetLine
  · exact s.leadingEdge_resetLine l k
  · exact s.checkCompletes_resetLine
  · exact h.resetLine

/-! ### Invariants -/

/-- A predicate that every event and the reset input keep. -/
structure State.Invariant (P : State → Prop) : Prop where
  pending : ∀ (s : State) p, P s → P { s with pending := p }
  entry : ∀ (s : State) l v, P s → P (s.setEntry l v)
  ready : ∀ (s : State) v, P s → P (s.setReady v)
  hold : ∀ (s : State) v, s.resetLine = true → P s → P (s.setHold v)
  cold : ∀ s : State, P s.coldReset
  released : ∀ s : State, P s → P s.releaseReset
  event : ∀ s t : State, s.resetLine = false → P s → s.Event t → P t

theorem State.Invariant.chain {P : State → Prop} (h : State.Invariant P) {s t : State} (c : s.Chain t)
    (hr : s.resetLine = false) (hp : P s) : P t ∧ t.resetLine = false := by
  induction c with
  | refl => exact ⟨hp, hr⟩
  | tail _ e ih => exact ⟨h.event _ _ ih.2 ih.1 e, e.resetLine.trans ih.2⟩

theorem State.Invariant.commanded {P : State → Prop} (h : State.Invariant P) {s t : State}
    (c : s.Commanded t) (hp : P s) : P t := by
  cases c with
  | held => exact hp
  | entry l v => exact h.entry s l v hp
  | ready v => exact h.ready s v hp
  | hold hr v => exact h.hold s v hr hp
  | cold => exact h.cold s
  | released => exact h.released s hp
  | events hr c => exact (h.chain c hr hp).1

/-- Every step keeps an invariant. -/
theorem State.Invariant.step {P : State → Prop} (h : State.Invariant P) (s t : State) (hp : P s)
    (hs : step s = .next t) : P t := by
  unfold Machine.step at hs
  split at hs
  · cases hs
    exact hp
  · exact h.commanded (exec_commanded hs) (h.pending s _ hp)

end Sys2Proof.Machine
end

section
/-! SUPPORT. The lanes stay sound and the plan store keeps its laws: a request's action is a mild change,
starts a lane, or moves a plan slot. -/

namespace Sys2Proof.Machine

/-! ### The abandoned track -/

/-- The finalizations of `ps` take the records with their numbers off the lane's track, and no lane
changes otherwise. -/
theorem State.foldl_finalize_lane (ps : List Piece) (f : FinalState) (s : State) (l l' : LaneId) :
    (ps.foldl (fun s p => s.finalize l p f) s).lane l' =
      if l' = l then { s.lane l with
        track := (s.lane l).track.filter (fun q => ps.all (fun p => q.number ≠ p.number)) }
      else s.lane l' := by
  induction ps generalizing s with
  | nil => split <;> simp_all
  | cons p ps ih =>
    simp only [List.foldl_cons, ih, State.lane_finalize, if_true, Lane.removePiece, List.filter_filter,
      List.all_cons]
    split
    · simp only [ne_eq, decide_not, Bool.and_comm]
    · rfl

/-- Every record of the track is finalized, so none is left. -/
theorem State.abandonAll_lane (s : State) (l l' : LaneId) :
    (s.abandonAll l).lane l' = if l' = l then { s.lane l with track := [] } else s.lane l' := by
  rw [State.abandonAll, State.foldl_finalize_lane]
  split
  · have hnone : (s.lane l).track.filter
        (fun q => (s.lane l).track.all (fun p => q.number ≠ p.number)) = [] := by
      simp only [List.filter_eq_nil_iff, List.all_eq_true, decide_eq_true_eq, not_forall]
      exact fun q hq => ⟨q, hq, by simp⟩
    rw [hnone]
  · rfl

/-! ### Requests -/

/-- The actions that are not mild: the start of a lane, and the changes of a plan slot. -/
inductive State.PlanAct (s : State) : State → Prop where
  | startLane (l : LaneId) (hs : (s.lane l).state = .stopped) (ha : s.activeSlot ≠ none) :
      s.PlanAct ((s.modLane l Lane.start).enterLane l .starting .run)
  | openEmpty (k : SlotId) (h : (s.slot k).state = .empty) :
      s.PlanAct (s.modSlot k (fun x => { PlanSlot.fresh .loading with refs := x.refs }))
  | reopen (k : SlotId) (h : (s.slot k).state = .ready) (hr : (s.slot k).refs = 0) :
      s.PlanAct (s.modSlot k PlanSlot.reopen)
  | load (k : SlotId) (f : PlanSlot → PlanSlot) (hs : (f (s.slot k)).state = (s.slot k).state)
      (hf : (s.slot k).Sound → (f (s.slot k)).Sound) : s.PlanAct (s.modSlot k f)
  | startCheck (k : SlotId) (h : (s.slot k).state = .loading) (hc : s.checker = none) :
      s.PlanAct (s.startCheck k)
  | activate (k : SlotId) (h : (s.slot k).state = .ready ∨ (s.slot k).state = .retiring) :
      s.PlanAct (s.activate k)

theorem State.clearLane_lane (s : State) (l l' : LaneId) :
    (s.clearLane l).lane l' =
      if l' = l then ({ s.lane l with track := [], lostCount := 0 } : Lane).enter .stopped
      else s.lane l' := by
  simp only [State.clearLane, State.enterLane, State.lane_raise, State.lane_modLane,
    State.lane_deriveBins, State.abandonAll_lane]
  split
  · rfl
  · simp_all

theorem State.clearLane_mild (s : State) (l : LaneId) (hs : (s.lane l).state = .faulted) :
    s.Mild (s.clearLane l) where
  lanes := fun l' h => by
    rw [State.clearLane_lane]
    split
    · subst l'
      exact ⟨rfl, fun e => absurd (hs.symm.trans (h.startTimer e)) (by simp),
        fun e => absurd (hs.symm.trans (h.drainTimer e)) (by simp), fun _ => rfl, Nat.zero_le _, h.gates,
        fun _ => h.closed (.inr hs), h.alert, h.latch, h.crit⟩
    · exact h
  takes := fun l' h => by
    rw [State.clearLane_lane] at h
    split at h
    · cases h
    · exact h
  slots := fun k => by
    simp only [State.clearLane, State.enterLane, State.slot_raise, State.slot_modLane,
      State.slot_deriveBins]
    exact (s.abandonAll_mild l).slots k

theorem State.startDrain_mild (s : State) (l : LaneId)
    (hs : (s.lane l).state = .starting ∨ (s.lane l).state = .running) : s.Mild (s.startDrain l) := by
  refine State.Mild.trans ?_ (State.reportEmpty_mild _ l)
  refine State.Mild.trans ?_ (State.raise_mild _ _)
  rw [State.modLane_modLane]
  refine s.modLane_mild l _ (fun h => ?_) (fun _ => by rcases hs with e | e <;> rw [e] <;> rfl)
  exact Lane.running_sound h rfl rfl (fun e => by cases e) (fun _ => rfl) (Nat.le_refl _) rfl rfl
    h.alert h.latch h.crit

theorem State.clearCounters_mild (s : State) : s.Mild s.clearCounters :=
  ((s.countDevice_mild _).trans (State.countLane_mild _ _ _)).trans (State.countLane_mild _ _ _)

/-- Most requests make a mild change and leave the checker alone. -/
theorem State.RequestAct.mild_or_plan {s t : State} (a : s.RequestAct t) :
    (s.Mild t ∧ t.checker = s.checker) ∨ s.PlanAct t := by
  cases a with
  | startLane l hs ha => exact .inr (.startLane l hs ha)
  | openEmpty k h => exact .inr (.openEmpty k h)
  | reopen k h hr => exact .inr (.reopen k h hr)
  | load k f hs hf => exact .inr (.load k f hs hf)
  | startCheck k h hc => exact .inr (.startCheck k h hc)
  | activate k h => exact .inr (.activate k h)
  | unchanged => exact .inl ⟨.refl s, rfl⟩
  | coldStart => exact .inl ⟨s.link_mild _, rfl⟩
  | clearCounters => exact .inl ⟨s.clearCounters_mild, by simp [State.clearCounters, State.countLane]⟩
  | startDrain l hs => exact .inl ⟨s.startDrain_mild l hs, (s.startDrain_frame l).checker⟩
  | abort l => exact .inl ⟨s.faultReport_mild l _, (s.faultReport_frame l _).checker⟩
  | clearLane l hs => exact .inl ⟨s.clearLane_mild l hs, (s.clearLane_frame l).checker⟩
  | lane l f hs ht => exact .inl ⟨s.modLane_mild l f hs (by rw [ht]; exact id), by simp⟩
  | bin l g f =>
    exact .inl ⟨(s.calm_mild l _ ⟨rfl, rfl, rfl, rfl, rfl, rfl, rfl, Nat.le_refl _⟩).trans
      (State.deriveBins_mild _ _ _),
      ((s.modLane_frame l _).trans (State.deriveBins_frame _ l _)).checker⟩
  | hot hot h => exact .inl ⟨.of_same (s.lane_with_hot hot) (s.slot_with_hot hot), rfl⟩
  | directory b n w => exact .inl ⟨s.dir_mild _, rfl⟩
  | arbiter p q a => exact .inl ⟨s.lookup_mild _, rfl⟩

/-! ### The lanes -/

theorem Lane.cold_sound (entry : Bool) : (Lane.cold entry).Sound where
  run := rfl
  startTimer := fun e => by cases e
  drainTimer := fun e => by cases e
  stopped := fun _ => rfl
  track := Nat.zero_le _
  gates := fun g => by fin_cases g <;> rfl
  closed := fun _ g => by fin_cases g <;> rfl
  alert := rfl
  latch := fun e => by cases e
  crit := fun e => by cases e

theorem Lane.warm_sound {L : Lane} : L.warm.Sound where
  run := rfl
  startTimer := fun e => by cases e
  drainTimer := fun e => by cases e
  stopped := fun _ => rfl
  track := Nat.zero_le _
  gates := fun g => by simp [Lane.warm, Lane.enter, Lane.dropHolds]
  closed := fun _ g => by simp [Lane.warm, Lane.enter, Lane.dropHolds]
  alert := by
    simp only [Lane.warm, Lane.enter, Lane.dropHolds, SpeedMonitor.warm, SpeedMonitor.alertLevel]
    cases L.speed.mode <;> rfl
  latch := fun e => by cases e
  crit := fun _ e => by cases e

/-- A record that joins a track with room leaves the lane sound. -/
theorem Lane.openPiece_sound {L : Lane} (h : L.Sound) (p : Piece) (hs : L.state.takes = true)
    (hr : L.track.length < Config.trackCapacity) : (L.openPiece p).Sound where
  run := h.run
  startTimer := h.startTimer
  drainTimer := h.drainTimer
  stopped := fun e => by rw [show L.state = .stopped from e] at hs; cases hs
  track := by simpa [Lane.openPiece] using hr
  gates := h.gates
  closed := h.closed
  alert := h.alert
  latch := h.latch
  crit := h.crit

theorem Lane.start_sound {L : Lane} (h : L.Sound) (hs : L.state = .stopped) :
    (L.start.enter .starting).Sound :=
  Lane.running_sound h rfl rfl (fun _ => rfl)
    (fun e => by rw [h.drainTimer (show L.drainTimer = true from e)] at hs; cases hs)
    (Nat.le_refl _) rfl rfl h.alert h.latch h.crit

/-- Changes of plan slots and checker leave the lanes sound. -/
theorem State.LanesSound.of_lanes {s t : State} (h : s.LanesSound) (e : ∀ l, t.lane l = s.lane l) :
    t.LanesSound := fun l => e l ▸ h l

/-- A change of one lane that keeps it sound. -/
theorem State.LanesSound.modLane {s : State} (h : s.LanesSound) {l : LaneId} {f : Lane → Lane}
    (hf : (f (s.lane l)).Sound) : (s.modLane l f).LanesSound := fun l' => by
  rw [State.lane_modLane]
  split
  · exact hf
  · exact h l'

theorem State.LanesSound.leadingEdge {s : State} (h : s.LanesSound) (l : LaneId) (k : SlotId) :
    (s.leadingEdge l k).LanesSound := by
  unfold State.leadingEdge
  split
  · rename_i ht
    split
    · exact (s.faultReport_mild l _).lanesSound h
    · rename_i hroom
      exact State.LanesSound.of_lanes
        (h.modLane (Lane.openPiece_sound (h l) _ ht (Nat.lt_of_not_le hroom))) (State.lane_takeRef _ k)
  · exact (s.countLane_mild l _).lanesSound h

theorem State.lane_checkCompletes (s : State) (l : LaneId) : s.checkCompletes.lane l = s.lane l := by
  unfold State.checkCompletes
  split
  · rfl
  · simp

theorem State.lane_startCheck (s : State) (k : SlotId) (l : LaneId) :
    (s.startCheck k).lane l = s.lane l :=
  (State.lane_with_checker _ _ l).trans (s.lane_modSlot k _ l)

theorem State.lane_activate (s : State) (k : SlotId) (l : LaneId) : (s.activate k).lane l = s.lane l := by
  unfold State.activate
  dsimp only
  split <;> simp

theorem State.PlanAct.lanesSound {s t : State} (a : s.PlanAct t) (h : s.LanesSound) : t.LanesSound := by
  cases a with
  | startLane l hs ha =>
    have e : (s.modLane l Lane.start).enterLane l .starting .run =
        (s.modLane l (fun L => L.start.enter .starting)).raise (.laneState l .starting .run) := by
      rw [State.enterLane, State.modLane_modLane]
    rw [e]
    exact (State.raise_mild _ _).lanesSound (h.modLane (Lane.start_sound (h l) hs))
  | openEmpty k => exact h.of_lanes (by simp)
  | reopen k => exact h.of_lanes (by simp)
  | load k f => exact h.of_lanes (by simp)
  | startCheck k => exact h.of_lanes (s.lane_startCheck k)
  | activate k => exact h.of_lanes (s.lane_activate k)

theorem State.lane_reqDeviceReset (s : State) (tag : Nat) (l : LaneId) :
    (s.reqDeviceReset tag).lane l = (s.lane l).warm := by cases l <;> rfl

theorem State.joinQuery_mild_takeRef (s : State) (tag : Nat) (k : SlotId) (a : Nat) (d : Option Nat) :
    (s.takeRef k).Mild (s.joinQuery tag k a d) :=
  ((State.lookup_mild (s.takeRef k) _).trans (State.link_mild _ _)).trans (State.grant_mild _)

theorem State.Performed.lanesSound {s t : State} (p : s.Performed t) (h : s.LanesSound) :
    t.LanesSound := by
  cases p with
  | answered a tag code st r =>
    refine (State.answer_mild _ tag code st r).lanesSound ?_
    rcases a.mild_or_plan with ⟨m, -⟩ | a
    · exact m.lanesSound h
    · exact a.lanesSound h
  | query tag k a d =>
    exact (s.joinQuery_mild_takeRef tag k a d).lanesSound (h.of_lanes (s.lane_takeRef k))
  | deviceReset tag => exact fun l => s.lane_reqDeviceReset tag l ▸ Lane.warm_sound

theorem State.releaseReset_mild (s : State) : s.Mild s.releaseReset := by
  unfold State.releaseReset
  split
  · exact .of_same (fun l => by cases l <;> rfl) (fun k => by cases k <;> rfl)
  · exact .refl s

theorem lanesSound_invariant : State.Invariant State.LanesSound where
  pending := fun s p h => h.of_lanes (s.lane_with_pending p)
  entry := fun s l v h =>
    (s.calm_mild l _ ⟨rfl, rfl, rfl, rfl, rfl, rfl, rfl, Nat.le_refl _⟩).lanesSound h
  ready := fun s v h => (s.dir_mild _).lanesSound h
  hold := fun s v _ h => (s.dir_mild _).lanesSound h
  cold := fun s l => by cases l <;> exact Lane.cold_sound _
  released := fun s h => s.releaseReset_mild.lanesSound h
  event := fun s t _ h e => by
    rcases e.mild_or_plan with ⟨m, -⟩ | ⟨l, k, -⟩ | _ | ⟨r, rest, -, -, p⟩
    · exact m.lanesSound h
    · exact h.leadingEdge l k
    · exact h.of_lanes s.lane_checkCompletes
    · exact p.lanesSound ((s.link_mild _).lanesSound h)

/-- Settles O56: every event keeps the lanes sound, nearly all as mild changes. -/
theorem lanesStaySound : Obligations.LanesStaySound := lanesSound_invariant.step

end Sys2Proof.Machine
end

section
/-! SUPPORT. The laws of the plan store (R64, R70, R78, R83), kept by every event: a change keeps them
that makes no slot ACTIVE or RETIRING, keeps the ACTIVE one, and moves CHECKING with the checker. -/

namespace Sys2Proof.Machine

/-! ### When the laws are kept -/

/-- A change that keeps which slot is ACTIVE, makes none RETIRING, and starts a lane only where a slot
is ACTIVE. -/
theorem State.PlanLaws.of_slots {s t : State} (h : s.PlanLaws) (slots : ∀ k, (t.slot k).Sound)
    (active : ∀ k, (t.slot k).state = .active ↔ (s.slot k).state = .active)
    (retiring : ∀ k, (t.slot k).state = .retiring → (s.slot k).state = .retiring)
    (checker : ∀ k, (t.slot k).state = .checking ↔ t.checker.map Checker.slot = some k)
    (takes : ∀ l, (t.lane l).state.takes = true → s.activeSlot ≠ none) : t.PlanLaws where
  slots := slots
  oneActive := fun ⟨h0, h1⟩ => h.oneActive ⟨(active .slot0).1 h0, (active .slot1).1 h1⟩
  retiring := fun k e => (active (otherSlot k)).2 (h.retiring k (retiring k e))
  checker := checker
  stamp := fun l e => by
    obtain ⟨k, hk⟩ := s.activeSlot_ne_none.1 (takes l e)
    exact t.activeSlot_ne_none.2 ⟨k, (active k).2 hk⟩

/-- A change of one slot that leaves the lanes alone. -/
theorem State.PlanLaws.of_slot {s t : State} (h : s.PlanLaws) (k : SlotId) (x : PlanSlot)
    (lanes : ∀ l, t.lane l = s.lane l) (slots : ∀ k', t.slot k' = if k' = k then x else s.slot k')
    (sound : x.Sound) (active : x.state = .active ↔ (s.slot k).state = .active)
    (retiring : x.state = .retiring → (s.slot k).state = .retiring)
    (checker : ∀ k', (t.slot k').state = .checking ↔ t.checker.map Checker.slot = some k') :
    t.PlanLaws := by
  refine h.of_slots (fun k' => ?_) (fun k' => ?_) (fun k' => ?_) checker
    (fun l e => h.stamp l (by rw [← lanes l]; exact e))
  all_goals
    rw [slots k']
    split
  · exact sound
  · exact h.slots k'
  · subst k'; exact active
  · exact .rfl
  · subst k'; exact retiring
  · exact id

/-- A change of one slot that keeps its state, or moves it outside ACTIVE, RETIRING and CHECKING. -/
theorem State.PlanLaws.modSlot {s : State} (h : s.PlanLaws) (k : SlotId) (f : PlanSlot → PlanSlot)
    (sound : (f (s.slot k)).Sound)
    (active : (f (s.slot k)).state = .active ↔ (s.slot k).state = .active)
    (retiring : (f (s.slot k)).state = .retiring → (s.slot k).state = .retiring)
    (checking : (f (s.slot k)).state = .checking ↔ (s.slot k).state = .checking) :
    (s.modSlot k f).PlanLaws := by
  refine h.of_slot k _ (s.lane_modSlot k f) (fun k' => s.slot_modSlot k k' f) sound active retiring
    fun k' => ?_
  rw [State.slot_modSlot, State.checker_modSlot, ← h.checker k']
  split
  · subst k'; exact checking
  · exact .rfl

/-! ### Slots -/

theorem PlanSlot.fresh_sound (st : SlotState) : (PlanSlot.fresh st).Sound :=
  ⟨Nat.zero_le _, Nat.le_refl _, Nat.zero_le _, Nat.le_refl _, Nat.zero_le _, Nat.le_refl _, fun _ => rfl⟩

/-- A sound slot stays so under another state and reference count, if the state may hold the
references. -/
theorem PlanSlot.Sound.withState {x : PlanSlot} (h : x.Sound) (n : Nat) (st : SlotState) (c : CheckOutcome)
    (hr : st.unreferenced = true → n = 0) :
    ({ x with refs := n, state := st, lastCheck := c } : PlanSlot).Sound :=
  { h with refs := hr }

theorem PlanSlot.Sound.reopen {x : PlanSlot} (h : x.Sound) (hr : x.refs = 0) : x.reopen.Sound :=
  ⟨h.formats, Nat.le_refl _, h.ranges, Nat.le_refl _, h.doctypes, Nat.le_refl _, fun _ => hr⟩

theorem PlanSlot.Sound.warm {x : PlanSlot} (h : x.Sound) : x.warm.Sound := by
  unfold PlanSlot.warm
  split
  all_goals exact { h with refs := fun _ => rfl }

/-- A reference is taken on a slot that may hold one. -/
theorem State.PlanLaws.takeRef {s : State} (h : s.PlanLaws) {k : SlotId}
    (hk : (s.slot k).state.unreferenced = false) : (s.takeRef k).PlanLaws :=
  h.modSlot k _ { h.slots k with refs := fun e => absurd (hk.symm.trans e) (by simp) } .rfl id .rfl

/-! ### Events -/

/-- A change that leaves lanes, slots and checker alone keeps the laws. -/
theorem State.PlanLaws.of_same {s t : State} (h : s.PlanLaws) (hl : ∀ l, t.lane l = s.lane l)
    (hk : ∀ k, t.slot k = s.slot k) (hc : t.checker = s.checker) : t.PlanLaws :=
  (State.Mild.of_same hl hk).planLaws hc h

theorem State.slot_state_of_activeSlot {s : State} {k : SlotId} (h : s.activeSlot = some k) :
    (s.slot k).state = .active := by
  unfold State.activeSlot at h
  split at h
  · cases h; assumption
  · split at h
    · cases h; assumption
    · cases h

theorem State.PlanLaws.leadingEdge {s : State} (h : s.PlanLaws) (l : LaneId) (k : SlotId)
    (hk : s.activeSlot = some k ∨
      ((s.lane l).state.takes = true → Config.trackCapacity ≤ (s.lane l).track.length)) :
    (s.leadingEdge l k).PlanLaws := by
  unfold State.leadingEdge
  split
  · rename_i ht
    split
    · exact (s.faultReport_mild l _).planLaws (s.faultReport_frame l _).checker h
    · rename_i hroom
      have hact : (s.slot k).state = .active :=
        hk.elim State.slot_state_of_activeSlot fun hfull => absurd (hfull ht) hroom
      have hopened : (s.modLane l (fun L => L.openPiece (L.newPiece k (s.slot k).settings.label))).PlanLaws := by
        refine h.of_slots (fun k' => ?_) (fun k' => by simp) (fun k' => by simp) (fun k' => ?_)
          (fun l' e => h.stamp l' ?_)
        · rw [State.slot_modLane]; exact h.slots k'
        · rw [State.slot_modLane, State.checker_modLane]; exact h.checker k'
        · rw [State.lane_modLane] at e
          split at e
          · subst l'; exact e
          · exact e
      exact hopened.takeRef (by rw [State.slot_modLane, hact]; rfl)
  · exact (s.countLane_mild l _).planLaws (s.countLane_frame l _).checker h

/-- The slot of the checker leaves CHECKING, without references. -/
theorem State.PlanLaws.checkCompletes {s : State} (h : s.PlanLaws) : s.checkCompletes.PlanLaws := by
  unfold State.checkCompletes
  split
  · exact h
  · rename_i c hc
    have hchk : (s.slot c.slot).state = .checking := (h.checker c.slot).2 (by rw [hc]; rfl)
    have hrefs : (s.slot c.slot).refs = 0 := (h.slots c.slot).refs (by rw [hchk]; rfl)
    have hstate : ∀ e, ((s.slot c.slot).checked e).state = .ready ∨
        ((s.slot c.slot).checked e).state = .loading := fun e => by
      cases e
      · exact .inl rfl
      · exact .inr rfl
    refine State.PlanLaws.of_same (s := ({ s with checker := none } : State).modSlot c.slot
      (fun k => k.checked k.checkError)) ?_ (State.lane_raise _ _) (State.slot_raise _ _) rfl
    refine h.of_slot c.slot ((s.slot c.slot).checked (s.slot c.slot).checkError) (fun l => by simp)
      (fun k' => by simp) ?_ ?_ ?_ (fun k' => ?_)
    · cases (s.slot c.slot).checkError with
      | none => exact (h.slots c.slot).withState _ _ _ fun _ => hrefs
      | some e => exact (h.slots c.slot).withState _ _ _ fun _ => hrefs
    · rcases hstate (s.slot c.slot).checkError with e | e <;> simp [e, hchk]
    · rcases hstate (s.slot c.slot).checkError with e | e <;> simp [e]
    · simp only [State.slot_modSlot, State.slot_with_checker, State.checker_modSlot, Option.map_none]
      split
      · rcases hstate (s.slot c.slot).checkError with e | e <;> simp [e]
      · rename_i hne
        rw [h.checker k', hc]
        simpa using Ne.symm hne

/-! ### Requests -/

theorem otherSlot_otherSlot (k : SlotId) : otherSlot (otherSlot k) = k := by cases k <;> rfl

theorem slot_eq_or_other (k k' : SlotId) : k' = k ∨ k' = otherSlot k := by
  cases k <;> cases k' <;> simp [otherSlot]

/-- What each slot is after a switch. -/
theorem State.slot_activate (s : State) (k : SlotId) :
    (s.activate k).slot k = { s.slot k with state := .active } ∧
      (s.activate k).slot (otherSlot k) =
        if (s.slot (otherSlot k)).state = .active then
          { s.slot (otherSlot k) with state := (s.slot (otherSlot k)).switchedOut }
        else s.slot (otherSlot k) := by
  by_cases h : (s.slot (otherSlot k)).state = .active
  · rw [State.activate_of_other_active h, if_pos h]
    simp [(otherSlot_ne k).symm]
  · rw [State.activate_of_other_not_active h, if_neg h]
    simp

theorem State.checker_activate (s : State) (k : SlotId) : (s.activate k).checker = s.checker := by
  unfold State.activate
  dsimp only
  split <;> simp

theorem PlanSlot.switchedOut_cases (x : PlanSlot) :
    x.switchedOut = .retiring ∨ x.switchedOut = .ready := by
  unfold PlanSlot.switchedOut
  split
  · exact .inl rfl
  · exact .inr rfl

/-- The target of a switch becomes the one ACTIVE slot. -/
theorem State.PlanLaws.activate {s : State} (h : s.PlanLaws) (k : SlotId)
    (hk : (s.slot k).state = .ready ∨ (s.slot k).state = .retiring) : (s.activate k).PlanLaws := by
  obtain ⟨htarget, hother⟩ := s.slot_activate k
  have hact : ((s.activate k).slot k).state = .active := by rw [htarget]
  have hnot : ((s.activate k).slot (otherSlot k)).state ≠ .active := by
    rw [hother]
    split
    · rcases (s.slot (otherSlot k)).switchedOut_cases with e | e <;> simp [e]
    · assumption
  refine ⟨fun k' => ?_, ?_, fun k' hret => ?_, fun k' => ?_, fun l _ => ?_⟩
  · rcases slot_eq_or_other k k' with rfl | rfl
    · rw [htarget]
      exact { h.slots k' with refs := fun e => by cases e }
    · rw [hother]
      split
      · refine { h.slots (otherSlot k) with refs := fun e => ?_ }
        rcases (s.slot (otherSlot k)).switchedOut_cases with e' | e' <;>
          · rw [show _ = _ from e'] at e
            cases e
      · exact h.slots _
  · intro ⟨h0, h1⟩
    cases k
    · exact hnot h1
    · exact hnot h0
  · rcases slot_eq_or_other k k' with rfl | rfl
    · rw [hact] at hret
      cases hret
    · rw [otherSlot_otherSlot]
      exact hact
  · rw [State.checker_activate, ← h.checker k']
    rcases slot_eq_or_other k k' with rfl | rfl
    · rcases hk with e | e <;> simp [hact, e]
    · rw [hother]
      split
      · rename_i e
        rcases (s.slot (otherSlot k)).switchedOut_cases with e' | e' <;> simp [e, e']
      · exact .rfl
  · exact (s.activate k).activeSlot_ne_none.2 ⟨k, hact⟩

theorem State.PlanLaws.startLane {s : State} (h : s.PlanLaws) (l : LaneId) (ha : s.activeSlot ≠ none) :
    ((s.modLane l Lane.start).enterLane l .starting .run).PlanLaws := by
  have hk : ∀ k, ((s.modLane l Lane.start).enterLane l .starting .run).slot k = s.slot k := fun k => by
    simp [State.enterLane]
  have hc : ((s.modLane l Lane.start).enterLane l .starting .run).checker = s.checker := by
    simp [State.enterLane]
  refine h.of_slots (fun k => hk k ▸ h.slots k) (fun k => by rw [hk]) (fun k => by rw [hk]; exact id)
    (fun k => by rw [hk, hc]; exact h.checker k) (fun _ _ => ha)

theorem State.PlanLaws.startCheck {s : State} (h : s.PlanLaws) (k : SlotId)
    (hk : (s.slot k).state = .loading) (hc : s.checker = none) : (s.startCheck k).PlanLaws := by
  have hslot : ∀ k', (s.startCheck k).slot k' =
      if k' = k then { s.slot k with state := .checking } else s.slot k' := fun k' =>
    (State.slot_with_checker _ _ k').trans (s.slot_modSlot k k' _)
  refine h.of_slot k { s.slot k with state := .checking } (s.lane_startCheck k) hslot ?_ ?_ ?_ fun k' => ?_
  · exact { h.slots k with refs := fun _ => (h.slots k).refs (by rw [hk]; rfl) }
  · simp [hk]
  · exact fun e => by cases e
  · rw [hslot, show (s.startCheck k).checker = some ⟨k, (s.slot k).checkMicroseconds⟩ from rfl]
    split
    · rename_i e
      simp [e]
    · rename_i e
      rw [h.checker k', hc]
      simpa using Ne.symm e

theorem State.PlanAct.planLaws {s t : State} (a : s.PlanAct t) (h : s.PlanLaws) : t.PlanLaws := by
  cases a with
  | startLane l hs ha => exact h.startLane l ha
  | openEmpty k hk =>
    refine h.modSlot k _ ?_ (by simp [PlanSlot.fresh, hk]) (fun e => by cases e)
      (by simp [PlanSlot.fresh, hk])
    exact { PlanSlot.fresh_sound .loading with refs := fun _ => (h.slots k).refs (by rw [hk]; rfl) }
  | reopen k hk hr =>
    exact h.modSlot k _ ((h.slots k).reopen hr) (by simp [PlanSlot.reopen, hk]) (fun e => by cases e)
      (by simp [PlanSlot.reopen, hk])
  | load k f hs hf =>
    exact h.modSlot k f (hf (h.slots k)) (by rw [hs]) (by rw [hs]; exact id) (by rw [hs])
  | startCheck k hk hc => exact h.startCheck k hk hc
  | activate k hk => exact h.activate k hk

theorem PlanSlot.warm_state (x : PlanSlot) : x.warm.state =
    match x.state with
    | .checking => .loading
    | .retiring => .ready
    | st => st := by
  unfold PlanSlot.warm
  cases x.state <;> rfl

theorem State.slot_reqDeviceReset (s : State) (tag : Nat) (k : SlotId) :
    (s.reqDeviceReset tag).slot k = (s.slot k).warm := by cases k <;> rfl

/-- After the warm reset no slot is CHECKING or RETIRING, the ACTIVE one is kept and no lane runs. -/
theorem State.PlanLaws.deviceReset {s : State} (h : s.PlanLaws) (tag : Nat) :
    (s.reqDeviceReset tag).PlanLaws := by
  refine h.of_slots (fun k => ?_) (fun k => ?_) (fun k => ?_) (fun k => ?_) (fun l e => ?_)
  · rw [State.slot_reqDeviceReset]
    exact (h.slots k).warm
  · rw [State.slot_reqDeviceReset, PlanSlot.warm_state]
    cases (s.slot k).state <;> simp
  · rw [State.slot_reqDeviceReset, PlanSlot.warm_state]
    cases (s.slot k).state <;> simp
  · rw [State.slot_reqDeviceReset, PlanSlot.warm_state,
      show (s.reqDeviceReset tag).checker = none from rfl]
    cases (s.slot k).state <;> simp
  · rw [State.lane_reqDeviceReset] at e
    cases e

theorem SlotState.unreferenced_of_queryable {st : SlotState} (h : st.queryable = true) :
    st.unreferenced = false := by
  cases st
  case empty => cases h
  case loading => cases h
  case checking => cases h
  all_goals rfl

theorem State.Performed.planLaws {s t : State} (p : s.Performed t) (h : s.PlanLaws) : t.PlanLaws := by
  cases p with
  | answered a tag code st r =>
    refine (State.answer_mild _ tag code st r).planLaws rfl ?_
    rcases a.mild_or_plan with ⟨m, hc⟩ | a
    · exact m.planLaws hc h
    · exact a.planLaws h
  | query tag k a d hk =>
    exact (s.joinQuery_mild_takeRef tag k a d).planLaws (State.grant_frame _).checker
      (h.takeRef (SlotState.unreferenced_of_queryable hk))
  | deviceReset tag => exact h.deviceReset tag

theorem State.reset_planLaws : State.reset.PlanLaws where
  slots := fun k => by cases k <;> exact PlanSlot.fresh_sound _
  oneActive := fun h => by cases h.1
  retiring := fun k e => by cases k <;> cases e
  checker := fun k => by cases k <;> simp [State.reset, PlanSlot.fresh]
  stamp := fun l e => by cases l <;> cases e

theorem planLaws_invariant : State.Invariant State.PlanLaws where
  pending := fun s p h => h.of_same (s.lane_with_pending p) (s.slot_with_pending p) rfl
  entry := fun s l v h =>
    (s.calm_mild l _ ⟨rfl, rfl, rfl, rfl, rfl, rfl, rfl, Nat.le_refl _⟩).planLaws
      (s.modLane_frame l _).checker h
  ready := fun s v h => (s.dir_mild _).planLaws rfl h
  hold := fun s v _ h => (s.dir_mild _).planLaws rfl h
  cold := fun s => State.reset_planLaws.of_slots (fun k => by cases k <;> exact PlanSlot.fresh_sound _)
    (fun k => by cases k <;> exact .rfl) (fun k => by cases k <;> exact id)
    (fun k => by
      cases k
      · exact State.reset_planLaws.checker .slot0
      · exact State.reset_planLaws.checker .slot1) (fun l e => by cases l <;> cases e)
  released := fun s h => s.releaseReset_mild.planLaws (by unfold State.releaseReset; split <;> rfl) h
  event := fun s t _ h e => by
    rcases e.mild_or_plan with ⟨m, f⟩ | ⟨l, k, hk⟩ | _ | ⟨r, rest, -, -, p⟩
    · exact m.planLaws f.checker h
    · exact h.leadingEdge l k hk
    · exact h.checkCompletes
    · exact p.planLaws ((s.link_mild _).planLaws rfl h)

/-- Settles O57: every event keeps the laws of the plan store. -/
theorem planLawsKept : Obligations.PlanLawsKept := planLaws_invariant.step

end Sys2Proof.Machine
end

section
/-! SUPPORT. The hot list stays ordered, since only the requests of the hot list write it; the directory
port stays sound (R103, R104, R106 to R108), since only the events of the port and the HOT stage write
it. -/

namespace Sys2Proof.Machine

/-! ### The hot list -/

theorem State.HotOrdered.of_eq {s t : State} (h : s.HotOrdered) (e : t.hot = s.hot) : t.HotOrdered := by
  unfold State.HotOrdered
  rw [e]
  exact h

theorem State.clearCounters_frame (s : State) : s.Frame s.clearCounters :=
  ((s.countDevice_frame _).trans (State.countLane_frame _ _ _)).trans (State.countLane_frame _ _ _)

theorem State.RequestAct.hotOrdered {s t : State} (a : s.RequestAct t) (h : s.HotOrdered) :
    t.HotOrdered := by
  cases a with
  | hot hot hh => exact hh h
  | startLane l => exact h.of_eq ((s.modLane_frame l _).trans (State.enterLane_frame _ l _ _)).hot
  | startDrain l => exact h.of_eq (s.startDrain_frame l).hot
  | abort l => exact h.of_eq (s.faultReport_frame l _).hot
  | clearLane l => exact h.of_eq (s.clearLane_frame l).hot
  | lane l f => exact h.of_eq (s.modLane_frame l f).hot
  | bin l g f => exact h.of_eq ((s.modLane_frame l _).trans (State.deriveBins_frame _ l _)).hot
  | openEmpty k => exact h.of_eq (s.modSlot_frame k _).hot
  | reopen k => exact h.of_eq (s.modSlot_frame k _).hot
  | load k f => exact h.of_eq (s.modSlot_frame k f).hot
  | startCheck k => exact h.of_eq (s.modSlot_frame k _).hot
  | clearCounters =>
    exact h.of_eq s.clearCounters_frame.hot
  | activate k =>
    refine h.of_eq ?_
    unfold State.activate
    dsimp only
    split <;> simp
  | unchanged => exact h
  | coldStart => exact h
  | directory => exact h
  | arbiter => exact h

theorem State.Performed.hotOrdered {s t : State} (p : s.Performed t) (h : s.HotOrdered) :
    t.HotOrdered := by
  cases p with
  | answered a => exact a.hotOrdered h
  | query tag k a d => exact h.of_eq ((State.grant_frame _).hot.trans (s.takeRef_frame k).hot)
  | deviceReset tag => exact h

theorem hotOrdered_invariant : State.Invariant State.HotOrdered where
  pending := fun _ _ h => h
  entry := fun s l v h => h.of_eq (s.modLane_frame l _).hot
  ready := fun _ _ h => h
  hold := fun _ _ _ h => h
  cold := fun _ => ⟨Nat.zero_le _, .nil, fun _ he => by cases he⟩
  released := fun s h => h.of_eq (by unfold State.releaseReset; split <;> rfl)
  event := fun s t _ h e => by
    rcases e.mild_or_plan with ⟨-, f⟩ | ⟨l, k, -⟩ | _ | ⟨r, rest, -, -, p⟩
    · exact h.of_eq f.hot
    · exact h.of_eq (s.leadingEdge_frame l k).hot
    · refine h.of_eq ?_
      unfold State.checkCompletes
      split <;> simp
    · exact p.hotOrdered h

/-! ### The directory port -/

/-- In IDLE no line of the port stands and no search is in hand. -/
theorem Directory.Sound.of_idle {d : Directory} (h : d.Sound) (hp : d.port = .idle) :
    d.holdAck = false ∧ d.wanted = false ∧ d.search = none ∧ d.readLine = false ∧ d.address = none := by
  have hs : d.search = none := by
    have := mt h.search.1 (by simp [hp])
    simpa using this
  refine ⟨?_, ?_, hs, by rw [h.read, hs]; rfl, ?_⟩
  · cases e : d.holdAck
    · rfl
    · exact absurd (hp.symm.trans (h.holdAck.1 e)) (by simp)
  · cases e : d.wanted
    · rfl
    · exact absurd (hp.symm.trans (h.wanted e)) (by simp)
  · have := h.address
    rw [hs] at this
    simpa using this

theorem Directory.Sound.failed_of_search {d : Directory} (h : d.Sound) (hs : d.search ≠ none) :
    d.failed = false := by
  cases e : d.failed
  · rfl
  · exact absurd (h.failedIdle e) hs

/-- A search in hand may begin a word read. -/
theorem Directory.Sound.startRead {d : Directory} (h : d.Sound) (hs : d.search ≠ none) (q : Search) :
    (d.startRead q).Sound := by
  have hsome : d.search.isSome = true := Option.isSome_iff_ne_none.2 hs
  have hf := h.failed_of_search hs
  exact { h with
    search := ⟨fun _ => h.search.1 hsome, fun _ => rfl⟩
    read := rfl
    address := rfl
    failedIdle := fun e => absurd (hf.symm.trans e) (by simp) }

/-- The end of a search in hand: whatever counts it leaves with, they stand as R104 asks. -/
theorem Directory.Sound.afterSearch {d : Directory} (h : d.Sound) (hs : d.search ≠ none) (c t : Nat)
    (f : Bool) (hf : f = true ↔ c = 2) (hc : c ≤ 2) (ht : t ≤ 65535) (u : Bool) :
    (({ d with consecutive := c, timeouts := t, failed := f } : Directory).afterSearch u).Sound := by
  have hsome := h.search.1 (Option.isSome_iff_ne_none.2 hs)
  have hack : d.holdAck = false := by
    cases e : d.holdAck
    · rfl
    · rcases hsome with p | p <;> rw [h.holdAck.1 e] at p <;> cases p
  have hwanted : d.wanted = false := by
    cases e : d.wanted
    · rfl
    · rcases hsome with p | p <;> rw [h.wanted e] at p <;> cases p
  unfold Directory.afterSearch
  dsimp only
  split
  · rename_i hy
    exact ⟨by simp, fun _ => rfl, fun _ => hy.2, by simp, rfl, rfl, hf, fun _ => rfl, hc, ht⟩
  · exact ⟨by simp [hack], by simp [hwanted], nofun, by simp, rfl, rfl, hf, fun _ => rfl,
      hc, ht⟩

theorem Directory.Sound.fromHold {d : Directory} (h : d.Sound) (hs : d.search = none)
    (hw : d.wanted = true → d.holdLine = true) : d.fromHold.Sound := by
  have hread : d.readLine = d.search.isSome := h.read
  unfold Directory.fromHold
  split
  · rename_i hl
    exact { h with
      holdAck := by simp
      wanted := fun _ => rfl
      held := fun _ => hl
      search := by simp [hs] }
  · rename_i hl
    exact { h with
      holdAck := by simp
      wanted := fun e => absurd (hw e) hl
      held := fun e => by cases e
      search := by simp [hs] }

theorem Directory.cold_sound (hold ready : Bool) : (Directory.cold hold ready).Sound where
  holdAck := by simp [Directory.cold]
  wanted := fun e => by cases e
  held := fun e => by cases e
  search := by simp [Directory.cold]
  read := rfl
  address := rfl
  failed := by simp [Directory.cold]
  failedIdle := fun _ => rfl
  consecutive := Nat.zero_le _
  timeouts := Nat.zero_le _

theorem Directory.warm_sound (d : Directory) : d.warm.Sound := by
  unfold Directory.warm Directory.fromHold
  dsimp only
  split
  · rename_i hl
    exact ⟨by simp, nofun, fun _ => hl, by simp, rfl, rfl, by simp, fun _ => rfl,
      Nat.zero_le _, Nat.zero_le _⟩
  · exact ⟨by simp, nofun, nofun, by simp, rfl, rfl, by simp, fun _ => rfl,
      Nat.zero_le _, Nat.zero_le _⟩

/-! ### The events of the port -/

/-- A search begins in IDLE without the failed flag. -/
theorem Directory.Sound.startSearch {d : Directory} (h : d.Sound) (hp : d.port = .idle)
    (hf : d.failed = false) (account : Nat) : (d.startSearch account).Sound := by
  obtain ⟨hack, hwanted, -, -, -⟩ := h.of_idle hp
  exact { h with
    holdAck := by simp [Directory.startSearch, Directory.startRead, hack]
    wanted := fun e => absurd (hwanted.symm.trans e) (by simp)
    held := fun e => by cases e
    search := by simp [Directory.startSearch, Directory.startRead]
    read := rfl
    address := rfl
    failedIdle := fun e => absurd (hf.symm.trans e) (by simp) }

theorem State.afterHot_dirSound {s : State} (h : s.dir.Sound) (j : Job) : (s.afterHot j).dir.Sound := by
  unfold State.afterHot
  split
  · unfold State.askDirectory
    split
    · rename_i hp
      split
      · rw [(s.directoryResult_wideFrame j _).dir]
        exact h
      · rename_i hf
        exact h.startSearch hp (by simpa using hf) _
    · rename_i hp
      rw [(State.directoryResult_wideFrame _ j _).dir]
      exact { h with wanted := fun _ => hp }
    · exact h
    · exact h
  · exact h

theorem State.hotStage_dirSound {s : State} (h : s.dir.Sound) (j : Job) : (s.hotStage j).dir.Sound := by
  unfold State.hotStage
  split
  · split
    · rw [(s.endLookup_wideFrame _).dir]
      exact h
    · exact State.afterHot_dirSound h _
  · exact State.afterHot_dirSound h _

theorem State.dir_endSearch (s : State) (r : SearchResult) :
    (s.endSearch r).dir = s.dir.afterSearch (decide (r = SearchResult.unavailable)) :=
  (State.holdNotice_frame _ _).dir.trans (State.handResult_wideFrame _ r).dir

theorem State.probeComplete_dirSound {s : State} (h : s.dir.Sound) (hs : s.dir.search ≠ none)
    (q : Search) (w0 w1 : DirWord) : (s.probeComplete q w0 w1).dir.Sound := by
  have hf := h.failed_of_search hs
  rcases s.probeComplete_ends_or_reads q w0 w1 with ⟨r, e⟩ | ⟨-, q', e⟩ <;> rw [e]
  · rw [State.dir_endSearch]
    exact h.afterSearch hs 0 s.dir.timeouts s.dir.failed (by simp [hf]) (Nat.zero_le _) h.timeouts _
  · refine Directory.Sound.startRead (d := { s.dir with consecutive := 0 }) ?_ hs q'
    exact { h with failed := by simp [hf], consecutive := Nat.zero_le _ }

theorem State.readyRises_dirSound {s : State} (h : s.dir.Sound) (w : DirWord) :
    (s.readyRises w).dir.Sound := by
  have h' : ({ s.dir with readyLine := true } : Directory).Sound := { h with }
  unfold State.readyRises
  split
  · exact h
  · dsimp only
    split
    · unfold State.wordRead
      split
      · exact h'
      · rename_i q hq
        have hs : s.dir.search ≠ none := by simp [show s.dir.search = some q from hq]
        split
        · exact h'.startRead hs _
        · exact State.probeComplete_dirSound (s := { s with dir := { s.dir with readyLine := true } }) h'
            hs q _ w
    · exact h'

theorem State.readTimesOut_dirSound {s : State} (h : s.dir.Sound) : s.readTimesOut.dir.Sound := by
  unfold State.readTimesOut
  split
  · rename_i hr
    have hs : s.dir.search ≠ none := Option.isSome_iff_ne_none.1 (h.read.symm.trans hr)
    have hf := h.failed_of_search hs
    have hc : s.dir.consecutive ≠ 2 := fun e => absurd (hf.symm.trans (h.failed.2 e)) (by simp)
    have hdir : s.searchTimeout.dir = s.dir.countTimeout.afterSearch false := by
      unfold State.searchTimeout
      dsimp only
      rw [(State.holdNotice_frame _ _).dir, (State.handResult_wideFrame _ _).dir]
      split <;> rfl
    rw [hdir]
    refine h.afterSearch hs _ _ _ ?_ (Nat.min_le_left _ _) (Nat.min_le_left _ _) false
    have := h.consecutive
    simp only [hf, Bool.false_or, decide_eq_true_eq]
    omega
  · exact h

theorem State.holdRises_dirSound {s : State} (h : s.dir.Sound) : s.holdRises.dir.Sound := by
  have h' : ({ s.dir with holdLine := true } : Directory).Sound := { h with held := fun _ => rfl }
  unfold State.holdRises
  split
  · rename_i hp
    obtain ⟨-, -, hs, -, -⟩ := h.of_idle hp
    exact { h' with
      holdAck := by simp [State.raiseDirectory]
      wanted := fun _ => rfl
      held := fun _ => rfl
      search := by simp [State.raiseDirectory, hs] }
  · rename_i hp
    exact { h' with
      holdAck := by simp [mt h.holdAck.1 (by simp [hp] : ¬ s.dir.port = .held)]
      wanted := fun e => absurd (hp.symm.trans (h.wanted e)) (by simp)
      held := fun _ => rfl
      search := by simp [h.search.2 (.inl hp)] }
  · exact h'
  · exact h'

theorem State.holdFalls_dirSound {s : State} (h : s.dir.Sound) : s.holdFalls.dir.Sound := by
  have h' : s.dir.port ≠ .held → ({ s.dir with holdLine := false } : Directory).Sound := fun hp =>
    { h with held := fun e => absurd e hp }
  unfold State.holdFalls
  split
  · rename_i hp
    have hs : s.dir.search = none := by simpa [hp] using mt h.search.1
    exact { h with
      holdAck := by simp [State.raiseDirectory]
      wanted := fun e => by cases e
      held := fun e => by cases e
      search := by simp [State.raiseDirectory, hs] }
  all_goals
    rename_i hp
    exact h' (by simp [hp])

/-! ### Requests -/

theorem State.RequestAct.dirSound {s t : State} (a : s.RequestAct t) (h : s.dir.Sound) :
    t.dir.Sound := by
  cases a with
  | directory b n w =>
    exact { h with
      failed := by simp
      failedIdle := fun e => by cases e
      consecutive := Nat.zero_le _
      timeouts := Nat.zero_le _ }
  | startLane l =>
    exact ((s.modLane_frame l _).trans (State.enterLane_frame _ l _ _)).dir ▸ h
  | startDrain l => exact (s.startDrain_frame l).dir ▸ h
  | abort l => exact (s.faultReport_frame l _).dir ▸ h
  | clearLane l => exact (s.clearLane_frame l).dir ▸ h
  | lane l f => exact (s.modLane_frame l f).dir ▸ h
  | bin l g f => exact ((s.modLane_frame l _).trans (State.deriveBins_frame _ l _)).dir ▸ h
  | openEmpty k => exact (s.modSlot_frame k _).dir ▸ h
  | reopen k => exact (s.modSlot_frame k _).dir ▸ h
  | load k f => exact (s.modSlot_frame k f).dir ▸ h
  | startCheck k => exact (s.modSlot_frame k _).dir ▸ h
  | clearCounters =>
    exact s.clearCounters_frame.dir ▸ h
  | activate k =>
    have e : (s.activate k).dir = s.dir := by
      unfold State.activate
      dsimp only
      split <;> simp
    exact e ▸ h
  | unchanged => exact h
  | coldStart => exact h
  | hot => exact h
  | arbiter => exact h

theorem State.Performed.dirSound {s t : State} (p : s.Performed t) (h : s.dir.Sound) : t.dir.Sound := by
  cases p with
  | answered a => exact a.dirSound h
  | query tag k a d =>
    have e : (s.joinQuery tag k a d).dir = s.dir :=
      (State.grant_frame _).dir.trans (s.takeRef_frame k).dir
    exact e ▸ h
  | deviceReset tag => exact s.dir.warm_sound

/-- Every event keeps the port sound: the events of the lanes and the link leave it alone. -/
theorem State.Event.dirSound {s t : State} (e : s.Event t) (h : s.dir.Sound) : t.dir.Sound := by
  cases e with
  | ready v => exact { h with }
  | hotStage j => exact State.hotStage_dirSound h j
  | readyRises w => exact State.readyRises_dirSound h w
  | readTimesOut => exact State.readTimesOut_dirSound h
  | holdRises => exact State.holdRises_dirSound h
  | holdFalls => exact State.holdFalls_dirSound h
  | taken r rest hb hf => exact (State.perform_performed r.request).dirSound h
  | entry l v => exact (s.modLane_frame l _).dir ▸ h
  | pulse l => exact (s.modLane_frame l _).dir ▸ h
  | fire l n => exact (s.modLane_frame l _).dir ▸ h
  | release l g n => exact (s.modLane_frame l _).dir ▸ h
  | scanReport l => exact (s.modLane_frame l _).dir ▸ h
  | leadingEdge l k => exact (s.leadingEdge_frame l k).dir ▸ h
  | trailingEdge l => exact (s.trailingEdge_frame l).dir ▸ h
  | forcedTrail l n => exact (s.forcedTrail_frame l n).dir ▸ h
  | readClose l n => exact (s.readClose_frame l n).dir ▸ h
  | lastChance l n => exact (s.lastChance_frame l n).dir ▸ h
  | sensorArrival l g => exact (s.sensorArrival_frame l g).dir ▸ h
  | windowClose l n => exact (s.windowClose_frame l n).dir ▸ h
  | runoutEdge l => exact (s.runoutEdge_frame l).dir ▸ h
  | runoutWindowClose l n => exact (s.runoutWindowClose_frame l n).dir ▸ h
  | startExpires l => exact (s.startExpires_frame l).dir ▸ h
  | drainExpires l => exact (s.drainExpires_frame l).dir ▸ h
  | windowEnd l => exact (s.windowEnd_frame l).dir ▸ h
  | rangeStage j => exact (s.rangeStage_frame j).dir ▸ h
  | doctypeStage j => exact (s.endLookup_wideFrame _).dir ▸ h
  | checkCompletes =>
    have e : s.checkCompletes.dir = s.dir := by
      unfold State.checkCompletes
      split <;> simp
    exact e ▸ h
  | defaultStage j => exact h
  | count f => exact h
  | receiver r => exact h
  | frameEnds => exact h
  | transmit => exact h
  | arrives tag r _ => exact h

theorem portSound_invariant : State.Invariant State.PortSound where
  pending := fun _ _ h => ⟨h.port, h.reset⟩
  entry := fun s l v h => by
    have f : s.Frame (s.setEntry l v) := s.modLane_frame l _
    exact ⟨f.dir ▸ h.port, fun e => by rw [f.resetLine] at e; rw [f.dir]; exact h.reset e⟩
  ready := fun s v h => ⟨{ h.port with }, h.reset⟩
  hold := fun s v hr h =>
    ⟨{ h.port with held := fun e => absurd ((h.reset hr).symm.trans e) (by simp) }, h.reset⟩
  cold := fun s => ⟨Directory.cold_sound _ _, fun _ => rfl⟩
  released := fun s h => by
    unfold State.releaseReset
    split
    · rename_i hr
      obtain ⟨-, hw, hs, -, -⟩ := h.port.of_idle (h.reset hr)
      exact ⟨h.port.fromHold hs fun e => absurd (hw.symm.trans e) (by simp), fun e => by cases e⟩
    · exact h
  event := fun s t hr h e =>
    ⟨e.dirSound h.port, fun hr' => absurd (hr'.symm.trans (e.resetLine.trans hr)) (by simp)⟩

/-- Settles O59: an event writes the hot list as a request of the hot list alone, and the port as the
port's own events. -/
theorem hotListAndPortStaySound : Obligations.HotListAndPortStaySound :=
  ⟨hotOrdered_invariant.step, portSound_invariant.step⟩

end Sys2Proof.Machine
end

section
/-! SUPPORT. The queues stay within their capacities and every QUERY keeps its response place (R113, R192,
R193, R199). What the lanes do is a run of moves that leave the QUERYs in hand and their places alone;
the engine and the requests are then taken one by one. -/

namespace Sys2Proof.Machine

/-! ### QUERYs in hand -/

/-- The request came as a QUERY. -/
def LookupRequest.isQuery (r : LookupRequest) : Bool :=
  match r.requester with
  | .query _ => true
  | .piece _ _ => false

/-- The QUERYs an engine has in hand. -/
def engineQueries (engine : Option Job) : Nat := (engine.map (fun j => j.request.isQuery.toNat)).getD 0

theorem LookupUnit.queries_eq (u : LookupUnit) :
    u.queries = u.queue.countP LookupRequest.isQuery + engineQueries u.engine := by
  obtain ⟨queue, _, _, _, _, _, engine⟩ := u
  simp only [LookupUnit.queries, List.countP_eq_length_filter]
  congr 1
  rcases engine with _ | ⟨⟨_ | _, _, _, _, _⟩, _, _, _⟩ <;> rfl

/-- Withdrawals take no QUERY off the queue. -/
theorem LookupUnit.withdraw_queries (u : LookupUnit) (l : LaneId) (n : Nat) :
    (u.withdraw l n).queries = u.queries := by
  rw [LookupUnit.queries_eq, LookupUnit.queries_eq]
  simp only [LookupUnit.withdraw, List.countP_filter]
  congr 2
  funext r
  simp only [LookupRequest.isQuery]
  split <;> simp_all

theorem LookupUnit.withdraw_length (u : LookupUnit) (l : LaneId) (n : Nat) :
    (u.withdraw l n).queue.length ≤ u.queue.length := List.length_filter_le _ _

/-- A grant moves a request from the queue into the engine. -/
theorem LookupUnit.granted_queries {u : LookupUnit} {i : Nat} {r : LookupRequest}
    (he : u.engine = none) (hr : u.queue[i]? = some r) : (u.granted i r).queries = u.queries := by
  obtain ⟨hi, rfl⟩ := List.getElem?_eq_some_iff.1 hr
  have hp := (List.getElem_cons_eraseIdx_perm hi).countP_eq LookupRequest.isQuery
  rw [LookupUnit.queries_eq, LookupUnit.queries_eq, he, ← hp, List.countP_cons]
  simp only [LookupUnit.granted, engineQueries, Option.map_some, Option.map_none, Option.getD_some,
    Option.getD_none]
  cases (u.queue[i]).isQuery <;> rfl

/-! ### Moves -/

/-- A move of the part that leaves the QUERYs in hand, the responses and the request buffer alone. -/
inductive State.Move (s : State) : State → Prop where
  | lane (l : LaneId) (f : Lane → Lane) : s.Move (s.modLane l f)
  | slot (k : SlotId) (f : PlanSlot → PlanSlot) : s.Move (s.modSlot k f)
  | raise (n : Notice) : s.Move (s.raise n)
  | offer (d : Disposition) : s.Move (s.offer d)
  | count (f : DeviceCounters → DeviceCounters) : s.Move (s.countDevice f)
  | lookup (u : LookupUnit) (hq : u.queries = s.lookup.queries)
      (hl : s.lookup.queue.length ≤ Config.lookupCapacity → u.queue.length ≤ Config.lookupCapacity) :
      s.Move { s with lookup := u }

/-- A run of moves. -/
abbrev State.Moves : State → State → Prop := Relation.ReflTransGen State.Move

theorem State.Move.moves {s t : State} (h : s.Move t) : s.Moves t := .single h

theorem State.modLane_moves (s : State) (l : LaneId) (f : Lane → Lane) : s.Moves (s.modLane l f) :=
  (State.Move.lane l f).moves

theorem State.raise_moves (s : State) (n : Notice) : s.Moves (s.raise n) := (State.Move.raise n).moves

theorem State.raiseAll_moves (ns : List Notice) (s : State) : s.Moves (s.raiseAll ns) := by
  induction ns generalizing s with
  | nil => exact .refl
  | cons n ns ih => exact (s.raise_moves n).trans (ih _)

theorem State.deriveBins_moves (s : State) (l : LaneId) (b : Lane) : s.Moves (s.deriveBins l b) :=
  State.raiseAll_moves _ s

theorem State.releaseRef_moves (s : State) (k : SlotId) : s.Moves (s.releaseRef k) := by
  unfold State.releaseRef
  split
  · exact (State.Move.slot k _).moves.tail (.raise _)
  · exact (State.Move.slot k _).moves

theorem State.withdraw_moves (s : State) (l : LaneId) (n : Nat) :
    s.Moves { s with lookup := s.lookup.withdraw l n } :=
  (State.Move.lookup _ (s.lookup.withdraw_queries l n) (s.lookup.withdraw_length l n).trans).moves

theorem State.grant_moves (s : State) : s.Moves s.grant := by
  unfold State.grant
  split
  · rename_i r he hr
    have hlen : (s.lookup.granted s.lookup.choice r).queue.length ≤ s.lookup.queue.length :=
      (List.eraseIdx_sublist _ _).length_le
    have h := (State.Move.lookup (s := s) _ (LookupUnit.granted_queries he hr) hlen.trans).moves
    dsimp only
    split
    · exact h.tail (.lane _ _)
    · exact h
  · exact .refl

theorem State.withdrawDecided_moves (s : State) (l : LaneId) (p : Piece) :
    s.Moves (s.withdrawDecided l p) :=
  ((s.withdraw_moves l p.number).tail (.lane _ _)).trans (State.releaseRef_moves _ _)

theorem State.withdrawLane_moves (s : State) (l : LaneId) : s.Moves (s.withdrawLane l) := by
  unfold State.withdrawLane
  generalize s.lookup.queuedOf l = ns
  induction ns generalizing s with
  | nil => exact .refl
  | cons n ns ih =>
    refine Relation.ReflTransGen.trans (b := s.withdrawPiece l n) ?_ (ih _)
    unfold State.withdrawPiece
    split
    · exact s.withdrawDecided_moves l _
    · exact s.withdraw_moves l n

theorem State.enterLane_moves (s : State) (l : LaneId) (st : LaneState) (c : NoticeCause) :
    s.Moves (s.enterLane l st c) := (s.modLane_moves l _).tail (.raise _)

theorem State.enterFaulted_moves (s : State) (l : LaneId) (c : FaultCause) :
    s.Moves (s.enterFaulted l c) :=
  ((s.modLane_moves l _).trans (State.withdrawLane_moves _ l)).tail (.raise _)

theorem State.faultReport_moves (s : State) (l : LaneId) (c : FaultCause) :
    s.Moves (s.faultReport l c) := by
  cases h : (s.lane l).state
  case stopped => rw [State.faultReport_of_inactive c (.inl h)]
  case faulted => rw [State.faultReport_of_inactive c (.inr h)]
  all_goals
    rw [State.faultReport_of_active c (by simp [h])]
    exact s.enterFaulted_moves l c

theorem State.reportEmpty_moves (s : State) (l : LaneId) : s.Moves (s.reportEmpty l) := by
  unfold State.reportEmpty
  split
  · exact (s.modLane_moves l _).trans (State.enterLane_moves _ l _ _)
  · exact .refl

theorem State.settleJam_moves (s : State) (l : LaneId) : s.Moves (s.settleJam l) := by
  unfold State.settleJam
  split
  · exact .refl
  · split
    · exact .refl
    · exact (s.modLane_moves l _).trans (State.faultReport_moves _ l _)

theorem State.afterFinalization_moves (s : State) (l : LaneId) (b : Lane) (o : List Gate) :
    s.Moves (s.afterFinalization l b o) :=
  ((State.raiseAll_moves _ s).trans (State.settleJam_moves _ l)).trans (State.reportEmpty_moves _ l)

theorem State.finalize_moves (s : State) (l : LaneId) (p : Piece) (f : FinalState) :
    s.Moves (s.finalize l p f) := by
  refine Relation.ReflTransGen.tail ?_ (.offer _)
  have h1 := s.modLane_moves l (fun L => L.removePiece p.number)
  split
  · split
    · exact (h1.trans (State.releaseRef_moves _ _)).trans (State.withdraw_moves _ l _)
    · exact h1.trans (State.withdraw_moves _ l _)
  · split
    · exact h1.trans (State.releaseRef_moves _ _)
    · exact h1

theorem State.decidePiece_moves (s : State) (l : LaneId) (n : Nat) (b : Lane) :
    s.Moves (s.decidePiece l n b) := by
  unfold State.decidePiece
  split
  · exact .refl
  · exact ((s.modLane_moves l _).trans (State.deriveBins_moves _ l b)).trans (State.releaseRef_moves _ _)

theorem State.decideService_moves (s : State) (l : LaneId) (n c : Nat) (b : Lane) :
    s.Moves (s.decideService l n c b) := (s.modLane_moves l _).trans (State.decidePiece_moves _ l n b)

theorem State.takeGateOut_moves (s : State) (l : LaneId) (g : Gate) : s.Moves (s.takeGateOut l g) :=
  ((s.modLane_moves l _).tail (.raise _)).tail (.lane _ _)

theorem State.abandonAll_moves (s : State) (l : LaneId) : s.Moves (s.abandonAll l) := by
  unfold State.abandonAll
  generalize (s.lane l).track = ps
  induction ps generalizing s with
  | nil => exact .refl
  | cons p ps ih => exact (s.finalize_moves l p _).trans (ih _)

theorem State.clearLane_moves (s : State) (l : LaneId) : s.Moves (s.clearLane l) :=
  (((s.abandonAll_moves l).tail (.lane _ _)).trans (State.deriveBins_moves _ l _)).trans
    (State.enterLane_moves _ l _ _)

theorem State.startDrain_moves (s : State) (l : LaneId) : s.Moves (s.startDrain l) :=
  ((s.modLane_moves l _).trans (State.enterLane_moves _ l _ _)).trans (State.reportEmpty_moves _ l)

/-! ### Events of the lanes -/

theorem State.leadingEdge_moves (s : State) (l : LaneId) (k : SlotId) : s.Moves (s.leadingEdge l k) := by
  unfold State.leadingEdge
  split
  · split
    · exact s.faultReport_moves l _
    · exact (s.modLane_moves l _).tail (.slot k _)
  · exact s.modLane_moves l _

theorem State.trailingEdge_moves (s : State) (l : LaneId) : s.Moves (s.trailingEdge l) := by
  unfold State.trailingEdge
  split
  · exact .refl
  · split
    · exact .refl
    · split
      · exact (((s.modLane_moves l _).trans (State.releaseRef_moves _ _)).tail (.lane _ _)).trans
          (State.reportEmpty_moves _ l)
      · exact (s.modLane_moves l _).trans (State.deriveBins_moves _ l _)

theorem State.forcedTrail_moves (s : State) (l : LaneId) (n : Nat) : s.Moves (s.forcedTrail l n) := by
  unfold State.forcedTrail
  split
  · exact .refl
  · split
    · exact .refl
    · split
      · split
        · exact (s.modLane_moves l _).trans (State.deriveBins_moves _ l _)
        · exact s.modLane_moves l _
      · exact .refl

/-- A lane's request joins a queue with a free place. -/
theorem State.offerLookup_moves (s : State) (l : LaneId) (p : Piece) (key : Key) (b : Lane) :
    s.Moves (s.offerLookup l p key b) := by
  unfold State.offerLookup
  split
  · rename_i hroom
    have hjoin := (State.Move.lookup (s := s)
      (s.lookup.join (.piece l p.number) key.account key.doctype p.slot)
      (by simp [LookupUnit.queries_eq, LookupUnit.join, LookupRequest.isQuery])
      (fun _ => by simpa [LookupUnit.join] using hroom)).moves
    exact ((hjoin.tail (.lane _ _)).trans (State.grant_moves _)).trans (State.deriveBins_moves _ l b)
  · exact (s.modLane_moves l _).trans (State.decideService_moves _ l _ _ b)

theorem State.readClose_moves (s : State) (l : LaneId) (n : Nat) : s.Moves (s.readClose l n) := by
  unfold State.readClose
  split
  · exact .refl
  · split
    · exact .refl
    · split
      · have h1 := fun f g => (s.modLane_moves l f).tail (.lane l g)
        dsimp only
        split
        · exact h1 _ _
        · split
          · exact (h1 _ _).trans (State.decideService_moves _ l n _ _)
          · exact (h1 _ _).trans (State.offerLookup_moves _ l _ _ _)
          · exact h1 _ _
      · exact .refl

theorem State.lastChance_moves (s : State) (l : LaneId) (n : Nat) : s.Moves (s.lastChance l n) := by
  unfold State.lastChance
  split
  · exact .refl
  · split
    · exact .refl
    · split
      · dsimp only
        split
        · exact .refl
        · exact .refl
        · exact s.modLane_moves l _
        · refine Relation.ReflTransGen.tail ?_ (.lane _ _)
          split
          · exact (s.modLane_moves l _).trans (State.withdrawDecided_moves _ l _)
          · exact s.modLane_moves l _
      · exact .refl

theorem State.sensorArrival_moves (s : State) (l : LaneId) (g : Gate) :
    s.Moves (s.sensorArrival l g) := by
  unfold State.sensorArrival
  dsimp only
  split
  · exact ((s.modLane_moves l _).tail (.lane _ _)).trans (State.deriveBins_moves _ l _)
  · split
    · exact (((s.modLane_moves l _).tail (.lane _ _)).trans (State.finalize_moves _ l _ _)).trans
        (State.afterFinalization_moves _ l _ _)
    · exact (((s.modLane_moves l _).tail (.lane _ _)).tail (.raise _)).trans
        (State.deriveBins_moves _ l _)

theorem State.windowClose_moves (s : State) (l : LaneId) (n : Nat) : s.Moves (s.windowClose l n) := by
  unfold State.windowClose
  split
  · exact .refl
  · split
    · exact .refl
    · split
      · split
        · have h1 := fun p f g => (s.finalize_moves l p f).tail (.lane l g)
          dsimp only
          split
          · exact ((h1 _ _ _).trans (State.takeGateOut_moves _ l _)).trans
              (State.afterFinalization_moves _ l _ _)
          · exact (h1 _ _ _).trans (State.afterFinalization_moves _ l _ _)
        · exact .refl
      · exact .refl

theorem State.runoutEdge_moves (s : State) (l : LaneId) : s.Moves (s.runoutEdge l) := by
  unfold State.runoutEdge
  dsimp only
  split
  · exact (s.modLane_moves l _).tail (.lane _ _)
  · split
    · exact (((s.modLane_moves l _).tail (.lane _ _)).trans (State.finalize_moves _ l _ _)).trans
        (State.afterFinalization_moves _ l _ _)
    · exact ((s.modLane_moves l _).tail (.lane _ _)).tail (.raise _)

theorem State.runoutWindowClose_moves (s : State) (l : LaneId) (n : Nat) :
    s.Moves (s.runoutWindowClose l n) := by
  unfold State.runoutWindowClose
  split
  · exact .refl
  · split
    · exact .refl
    · split
      · exact .refl
      · split
        · exact ((s.finalize_moves l _ _).tail (.lane _ _)).trans (State.afterFinalization_moves _ l _ _)
        · exact .refl

theorem State.startExpires_moves (s : State) (l : LaneId) : s.Moves (s.startExpires l) := by
  unfold State.startExpires
  split
  · exact s.enterFaulted_moves l _
  · exact .refl

theorem State.drainExpires_moves (s : State) (l : LaneId) : s.Moves (s.drainExpires l) := by
  unfold State.drainExpires
  split
  · exact s.enterFaulted_moves l _
  · exact .refl

theorem State.windowEnd_moves (s : State) (l : LaneId) : s.Moves (s.windowEnd l) := by
  have hq : ∀ u : State, u.Moves (u.qualified l) := fun u => by
    unfold State.qualified
    split
    · exact (u.modLane_moves l _).trans (State.enterLane_moves _ l _ _)
    · exact .refl
  unfold State.windowEnd
  have h1 := fun f ns => (s.modLane_moves l f).trans (State.raiseAll_moves ns _)
  dsimp only
  split
  · exact (h1 _ _).trans (hq _)
  · exact h1 _ _

/-! ### The queues under moves -/

/-- The queues depend on the lookup unit and the link alone. -/
theorem State.QueuesBounded.of_eq {s t : State} (h : s.QueuesBounded) (hu : t.lookup = s.lookup)
    (hk : t.link = s.link) : t.QueuesBounded :=
  ⟨hu ▸ h.lookups, hk ▸ h.requests, by rw [hu, hk]; exact h.reserved, by rw [hk]; exact h.responses,
    hk ▸ h.notices, hk ▸ h.lost, hk ▸ h.dispositions⟩

theorem State.QueuesBounded.raise {s : State} (h : s.QueuesBounded) (n : Notice) :
    (s.raise n).QueuesBounded := by
  refine ⟨h.lookups, by simpa using h.requests, by simpa using h.reserved, by simpa using h.responses,
    ?_, ?_, by simpa using h.dispositions⟩
  all_goals
    simp only [State.link_raise, Link.raise]
    split
  · rename_i hroom
    simpa using hroom
  · exact h.notices
  · exact h.lost
  · exact Nat.min_le_left _ _

theorem State.QueuesBounded.offer {s : State} (h : s.QueuesBounded) (d : Disposition) :
    (s.offer d).QueuesBounded := by
  refine ⟨h.lookups, by simpa using h.requests, by simpa using h.reserved, by simpa using h.responses,
    by simpa using h.notices, by simpa using h.lost, ?_⟩
  simp only [State.link_offer, Link.offer]
  split
  · rename_i hroom
    simpa using hroom
  · exact h.dispositions

theorem State.Move.queuesBounded {s t : State} (m : s.Move t) (h : s.QueuesBounded) :
    t.QueuesBounded := by
  cases m with
  | lane l f => exact h.of_eq (s.lookup_modLane l f) (s.link_modLane l f)
  | slot k f => exact h.of_eq (s.lookup_modSlot k f) (s.link_modSlot k f)
  | raise n => exact h.raise n
  | offer d => exact h.offer d
  | count f => exact ⟨h.lookups, h.requests, h.reserved, h.responses, h.notices, h.lost, h.dispositions⟩
  | lookup u hq hl =>
    exact ⟨hl h.lookups, h.requests, h.reserved.trans hq.symm, h.responses, h.notices, h.lost,
      h.dispositions⟩

theorem State.Moves.queuesBounded {s t : State} (m : s.Moves t) (h : s.QueuesBounded) :
    t.QueuesBounded := by
  induction m with
  | refl => exact h
  | tail _ m ih => exact m.queuesBounded ih

end Sys2Proof.Machine
end

section
/-! SUPPORT. The queues under the engine, the transmitter and the requests: a QUERY leaves the engine as
its response takes the place reserved for it (R125, R193), and a request is taken only with a place free
(R194). -/

namespace Sys2Proof.Machine

/-! ### The engine -/

/-- The engine goes on with the request in hand. -/
theorem State.QueuesBounded.setJob {s : State} (h : s.QueuesBounded) {j j' : Job}
    (hj : s.lookup.engine = some j) (hr : j'.request = j.request) : (s.setJob j').QueuesBounded := by
  refine ⟨h.lookups, h.requests, h.reserved.trans ?_, h.responses, h.notices, h.lost, h.dispositions⟩
  simp [LookupUnit.queries_eq, State.setJob, engineQueries, hj, hr]

/-- The engine becomes free of a lane's request. -/
theorem LookupUnit.queries_free (u : LookupUnit) :
    ({ u with engine := none } : LookupUnit).queries = u.queue.countP LookupRequest.isQuery := by
  simp [LookupUnit.queries_eq, engineQueries]

@[simp] theorem State.lookup_decidePiece (s : State) (l : LaneId) (n : Nat) (b : Lane) :
    (s.decidePiece l n b).lookup = s.lookup := by
  unfold State.decidePiece
  split <;> simp

/-- Delivery leaves the lookup unit as it is. -/
@[simp] theorem State.lookup_deliver (s : State) (j : Job) : (s.deliver j).lookup = s.lookup := by
  unfold State.deliver
  split
  · split
    · simp [State.modPiece]
    · simp
  · simp

/-- The release of a reference and the lookup unit are independent. -/
theorem State.releaseRef_with_lookup (s : State) (u : LookupUnit) (k : SlotId) :
    ({ s with lookup := u } : State).releaseRef k = { s.releaseRef k with lookup := u } := by
  unfold State.releaseRef
  simp only [State.slot_with_lookup]
  split <;> cases k <;> rfl

/-- The lookup unit is replaced by one with the same queue and the same QUERYs in hand. -/
theorem State.QueuesBounded.free {s : State} (h : s.QueuesBounded) {u : LookupUnit}
    (hq : u.queries = s.lookup.queries) (hl : u.queue = s.lookup.queue) :
    ({ s with lookup := u } : State).QueuesBounded :=
  (State.Move.lookup (s := s) u hq (hl ▸ id)).queuesBounded h

theorem State.QueuesBounded.endLookup {s : State} (h : s.QueuesBounded) {j j' : Job}
    (hj : s.lookup.engine = some j) (hr : j'.request = j.request) : (s.endLookup j').QueuesBounded := by
  refine (State.grant_moves _).queuesBounded ?_
  have hres := h.reserved
  rw [LookupUnit.queries_eq, hj] at hres
  cases hw : j'.request.requester with
  | piece l n =>
    have hpiece : j.request.isQuery = false := by rw [← hr, LookupRequest.isQuery, hw]
    have hd : (s.deliver j').QueuesBounded := by
      have hm : s.Moves (s.deliver j') := by
        unfold State.deliver
        rw [hw]
        dsimp only
        split
        · exact (s.modLane_moves _ _).trans (State.decidePiece_moves _ _ _ _)
        · exact (State.Move.count _).moves.trans (State.releaseRef_moves _ _)
      exact hm.queuesBounded h
    refine hd.free ?_ rfl
    rw [LookupUnit.queries_free, LookupUnit.queries_eq, State.lookup_deliver, hj]
    simp [engineQueries, hpiece]
  | query tag =>
    have hquery : j.request.isQuery = true := by rw [← hr, LookupRequest.isQuery, hw]
    have hone : s.link.reserved = s.lookup.queue.countP LookupRequest.isQuery + 1 := by
      rw [hres]
      simp [engineQueries, hquery]
    have hcap := h.responses
    have hdeliver : s.deliver j' = (({ s with link := { s.link with
        reserved := s.link.reserved - 1 } } : State).answer tag 0x50 .done (queryResults j')).releaseRef
          j'.request.slot := by
      rw [State.deliver, hw]
    rw [State.lookup_deliver, hdeliver, ← State.releaseRef_with_lookup]
    refine (State.releaseRef_moves _ _).queuesBounded
      ⟨h.lookups, h.requests, ?_, ?_, h.notices, h.lost, h.dispositions⟩
    · rw [LookupUnit.queries_free]
      exact Nat.sub_eq_of_eq_add hone
    · simp only [State.link_answer, List.length_append, List.length_singleton]
      omega

theorem State.QueuesBounded.directoryResult {s : State} (h : s.QueuesBounded) {j j' : Job}
    (hj : s.lookup.engine = some j) (hr : j'.request = j.request) (r : SearchResult) :
    (s.directoryResult j' r).QueuesBounded := by
  unfold State.directoryResult
  dsimp only
  have hfailing : State.QueuesBounded (match (s.slot j'.request.slot).settings.policy with
      | .fallback => s.setJob { j' with stage := .range, flags := { j'.flags with dirFallback := true } }
      | .fault => s.endLookup { j' with result := some (4, .service) }) := by
    split
    · exact h.setJob hj hr
    · exact h.endLookup hj hr
  split
  · split
    · exact h.setJob hj hr
    · exact h.setJob hj hr
  · exact h.setJob hj hr
  · exact hfailing
  · exact hfailing

theorem State.QueuesBounded.afterHot {s : State} (h : s.QueuesBounded) {j j' : Job}
    (hj : s.lookup.engine = some j) (hr : j'.request = j.request) : (s.afterHot j').QueuesBounded := by
  unfold State.afterHot
  split
  · unfold State.askDirectory
    split
    · split
      · exact h.directoryResult hj hr _
      · exact (h.setJob (j' := { j' with stage := .directory }) hj hr).of_eq rfl rfl
    · exact State.QueuesBounded.directoryResult
        (s := { s with dir := { s.dir with wanted := true } }) (h.of_eq rfl rfl) hj hr _
    · exact h.setJob hj hr
    · exact h.setJob hj hr
  · exact h.setJob hj hr

theorem State.QueuesBounded.hotStage {s : State} (h : s.QueuesBounded) {j : Job}
    (hj : s.lookup.engine = some j) : (s.hotStage j).QueuesBounded := by
  unfold State.hotStage
  split
  · split
    · exact h.endLookup hj rfl
    · exact h.afterHot hj rfl
  · exact h.afterHot hj rfl

theorem State.QueuesBounded.rangeStage {s : State} (h : s.QueuesBounded) {j : Job}
    (hj : s.lookup.engine = some j) : (s.rangeStage j).QueuesBounded := by
  unfold State.rangeStage
  split
  · exact h.setJob hj rfl
  · exact h.setJob hj rfl

theorem State.QueuesBounded.handResult {s : State} (h : s.QueuesBounded) (r : SearchResult) :
    (s.handResult r).QueuesBounded := by
  unfold State.handResult
  split
  · rename_i j hj
    split
    · exact h.directoryResult hj rfl r
    · exact h
  · exact h

/-! ### The port -/

theorem State.QueuesBounded.dir {s : State} (h : s.QueuesBounded) (d : Directory) :
    ({ s with dir := d } : State).QueuesBounded := h.of_eq rfl rfl

theorem State.QueuesBounded.holdNotice {s : State} (h : s.QueuesBounded) (g : Bool) :
    (s.holdNotice g).QueuesBounded := by
  unfold State.holdNotice
  split
  · exact h.raise _
  · exact h

theorem State.QueuesBounded.endSearch {s : State} (h : s.QueuesBounded) (r : SearchResult) :
    (s.endSearch r).QueuesBounded := ((h.dir _).handResult r).holdNotice _

theorem State.QueuesBounded.readyRises {s : State} (h : s.QueuesBounded) (w : DirWord) :
    (s.readyRises w).QueuesBounded := by
  unfold State.readyRises
  split
  · exact h
  · dsimp only
    split
    · unfold State.wordRead
      split
      · exact h.dir _
      · split
        · exact h.dir _
        · rename_i q _ _ w0 _
          rcases State.probeComplete_ends_or_reads
            { s with dir := { s.dir with readyLine := true } } q w0 w with ⟨r, e⟩ | ⟨-, q', e⟩ <;> rw [e]
          · exact (h.dir _).endSearch r
          · exact h.dir _
    · exact h.dir _

theorem State.QueuesBounded.readTimesOut {s : State} (h : s.QueuesBounded) :
    s.readTimesOut.QueuesBounded := by
  unfold State.readTimesOut
  split
  · unfold State.searchTimeout
    dsimp only
    refine State.QueuesBounded.holdNotice (State.QueuesBounded.handResult ?_ _) _
    split
    · exact ((h.dir _).raise _).raise _
    · exact (h.dir _).raise _
  · exact h

theorem State.QueuesBounded.holdRises {s : State} (h : s.QueuesBounded) : s.holdRises.QueuesBounded := by
  unfold State.holdRises
  split
  · exact (h.dir _).raise _
  all_goals exact h.dir _

theorem State.QueuesBounded.holdFalls {s : State} (h : s.QueuesBounded) : s.holdFalls.QueuesBounded := by
  unfold State.holdFalls
  split
  · exact (h.dir _).raise _
  all_goals exact h.dir _

/-! ### The link and the requests -/

/-- The transmitter takes a frame off a queue, or nothing. -/
theorem State.QueuesBounded.transmit {s : State} (h : s.QueuesBounded) : s.transmit.QueuesBounded := by
  have hres := h.responses
  have hnot := h.notices
  have hdis := h.dispositions
  unfold State.transmit Link.transmit
  split
  · exact h
  · split
    · rename_i r rs hr
      rw [hr] at hres
      exact { h with responses := by simp only [List.length_cons] at hres ⊢; omega }
    · split
      · rename_i n ns hn
        rw [hn] at hnot
        exact { h with notices := Nat.le_of_succ_le hnot, lost := Nat.zero_le _ }
      · split
        · rename_i d ds hd
          rw [hd] at hdis
          exact { h with dispositions := Nat.le_of_succ_le hdis }
        · exact h

/-- The action of a request leaves the responses and their places alone. -/
theorem State.RequestAct.moves {s t : State} (a : s.RequestAct t) :
    s.Moves t ∨ t.lookup = s.lookup ∧
      (t.link = s.link ∨ t.link = { s.link with coldStart := false }) := by
  cases a with
  | startLane l => exact .inl ((s.modLane_moves l _).trans (State.enterLane_moves _ l _ _))
  | startDrain l => exact .inl (s.startDrain_moves l)
  | abort l => exact .inl (s.faultReport_moves l _)
  | clearLane l => exact .inl (s.clearLane_moves l)
  | lane l f => exact .inl (s.modLane_moves l f)
  | bin l g f => exact .inl ((s.modLane_moves l _).trans (State.deriveBins_moves _ l _))
  | openEmpty k => exact .inl (State.Move.slot k _).moves
  | reopen k => exact .inl (State.Move.slot k _).moves
  | load k f => exact .inl (State.Move.slot k f).moves
  | clearCounters =>
    unfold State.clearCounters State.countLane
    exact .inl (((State.Move.count _).moves.tail (.lane _ _)).tail (.lane _ _))
  | activate k =>
    unfold State.activate
    dsimp only
    split
    · exact .inl ((State.Move.slot k _).moves.tail (.slot _ _))
    · exact .inl (State.Move.slot k _).moves
  | arbiter p q a =>
    exact .inl (State.Move.lookup (s := s) { s.lookup with priority0 := p, priority1 := q, ageLimit := a }
      (by simp [LookupUnit.queries_eq]) id).moves
  | startCheck k => exact .inr ⟨s.lookup_modSlot k _, .inl (s.link_modSlot k _)⟩
  | unchanged => exact .inl .refl
  | coldStart => exact .inr ⟨rfl, .inr rfl⟩
  | hot => exact .inr ⟨rfl, .inl rfl⟩
  | directory => exact .inr ⟨rfl, .inl rfl⟩

/-- A move leaves the responses and the reserved places alone. -/
theorem State.Moves.responses {s t : State} (m : s.Moves t) :
    t.link.responses = s.link.responses ∧ t.link.reserved = s.link.reserved := by
  induction m with
  | refl => exact ⟨rfl, rfl⟩
  | tail _ m ih =>
    cases m with
    | lane l f => simpa using ih
    | slot k f => simpa using ih
    | raise n => simpa using ih
    | offer d => simpa using ih
    | count f => exact ih
    | lookup u => exact ih

theorem State.RequestAct.queuesBounded {s t : State} (a : s.RequestAct t) (h : s.QueuesBounded) :
    t.QueuesBounded ∧ t.link.responses = s.link.responses ∧ t.link.reserved = s.link.reserved := by
  rcases a.moves with m | ⟨hu, hk | hk⟩
  · exact ⟨m.queuesBounded h, m.responses⟩
  · exact ⟨h.of_eq hu hk, by rw [hk], by rw [hk]⟩
  · have h' : ({ s with link := { s.link with coldStart := false } } : State).QueuesBounded :=
      ⟨h.lookups, h.requests, h.reserved, h.responses, h.notices, h.lost, h.dispositions⟩
    exact ⟨h'.of_eq hu hk, by rw [hk], by rw [hk]⟩

/-- A QUERY joins the queue with its response place. -/
theorem State.QueuesBounded.joinQuery {s : State} (h : s.QueuesBounded) (hf : s.link.freePlaces ≠ 0)
    (hq : s.lookup.queue.length < Config.lookupCapacity) (tag : Nat) (k : SlotId) (a : Nat)
    (d : Option Nat) : (s.joinQuery tag k a d).QueuesBounded := by
  refine (State.grant_moves _).queuesBounded ?_
  have hcap := h.responses
  refine ⟨by simpa [LookupUnit.join] using hq, h.requests, ?_, ?_, h.notices, h.lost, h.dispositions⟩
  · have hres := h.reserved
    rw [LookupUnit.queries_eq] at hres ⊢
    simp only [LookupUnit.join, List.countP_append, List.countP_singleton, LookupRequest.isQuery, hres]
    simp only [if_true]
    omega
  · simp only [Link.freePlaces] at hf
    simp only
    omega

theorem State.QueuesBounded.performed {s t : State} (h : s.QueuesBounded)
    (hf : s.link.freePlaces ≠ 0) (p : s.Performed t) : t.QueuesBounded := by
  cases p with
  | answered a tag code st r =>
    obtain ⟨hu, hresponses, hreserved⟩ := a.queuesBounded h
    refine ⟨hu.lookups, hu.requests, hu.reserved, ?_, hu.notices, hu.lost, hu.dispositions⟩
    simp only [Link.freePlaces] at hf
    simp only [State.link_answer, hresponses, hreserved, List.length_append, List.length_singleton]
    omega
  | query tag k a d _ hq => exact h.joinQuery hf hq tag k a d
  | deviceReset tag =>
    exact ⟨Nat.zero_le _, Nat.zero_le _, rfl, Nat.le_of_ble_eq_true rfl, Nat.zero_le _, Nat.zero_le _, Nat.zero_le _⟩

theorem State.QueuesBounded.taken {s t : State} (h : s.QueuesBounded) {r : BufferedRequest}
    {rest : List BufferedRequest} (hb : s.link.buffer = r :: rest) (hf : s.link.freePlaces ≠ 0)
    (p : ({ s with link := { s.link with buffer := rest } } : State).Performed t) : t.QueuesBounded := by
  refine State.QueuesBounded.performed (s := { s with link := { s.link with buffer := rest } }) ?_ hf p
  have hbuf := h.requests
  rw [hb] at hbuf
  exact ⟨h.lookups, Nat.le_of_succ_le hbuf, h.reserved, h.responses, h.notices, h.lost, h.dispositions⟩

/-- Every event keeps the queues bounded. -/
theorem State.Event.queuesBounded {s t : State} (e : s.Event t) (h : s.QueuesBounded) :
    t.QueuesBounded := by
  cases e with
  | hotStage j hj => exact h.hotStage hj
  | rangeStage j hj => exact h.rangeStage hj
  | defaultStage j hj => exact h.setJob hj rfl
  | doctypeStage j hj => exact h.endLookup hj rfl
  | readyRises w => exact h.readyRises w
  | readTimesOut => exact h.readTimesOut
  | holdRises => exact h.holdRises
  | holdFalls => exact h.holdFalls
  | ready v => exact h.dir _
  | transmit => exact h.transmit
  | taken r rest hb hf => exact h.taken hb hf (State.perform_performed _)
  | arrives tag r hroom =>
    exact ⟨h.lookups, by simpa using hroom, h.reserved, h.responses, h.notices, h.lost, h.dispositions⟩
  | receiver r =>
    exact ⟨h.lookups, h.requests, h.reserved, h.responses, h.notices, h.lost, h.dispositions⟩
  | frameEnds =>
    exact ⟨h.lookups, h.requests, h.reserved, h.responses, h.notices, h.lost, h.dispositions⟩
  | checkCompletes =>
    unfold State.checkCompletes
    split
    · exact h
    · exact ((State.Move.slot _ _).queuesBounded (h.of_eq (t := { s with checker := none }) rfl rfl)).raise _
  | count f => exact (State.Move.count f).queuesBounded h
  | entry l v => exact (s.modLane_moves l _).queuesBounded h
  | pulse l => exact (s.modLane_moves l _).queuesBounded h
  | fire l n => exact (s.modLane_moves l _).queuesBounded h
  | release l g n => exact (s.modLane_moves l _).queuesBounded h
  | scanReport l => exact (s.modLane_moves l _).queuesBounded h
  | leadingEdge l k => exact (s.leadingEdge_moves l k).queuesBounded h
  | trailingEdge l => exact (s.trailingEdge_moves l).queuesBounded h
  | forcedTrail l n => exact (s.forcedTrail_moves l n).queuesBounded h
  | readClose l n => exact (s.readClose_moves l n).queuesBounded h
  | lastChance l n => exact (s.lastChance_moves l n).queuesBounded h
  | sensorArrival l g => exact (s.sensorArrival_moves l g).queuesBounded h
  | windowClose l n => exact (s.windowClose_moves l n).queuesBounded h
  | runoutEdge l => exact (s.runoutEdge_moves l).queuesBounded h
  | runoutWindowClose l n => exact (s.runoutWindowClose_moves l n).queuesBounded h
  | startExpires l => exact (s.startExpires_moves l).queuesBounded h
  | drainExpires l => exact (s.drainExpires_moves l).queuesBounded h
  | windowEnd l => exact (s.windowEnd_moves l).queuesBounded h

theorem State.reset_queuesBounded : State.reset.QueuesBounded :=
  ⟨Nat.zero_le _, Nat.zero_le _, rfl, Nat.zero_le _, Nat.zero_le _, Nat.zero_le _, Nat.zero_le _⟩

theorem queuesBounded_invariant : State.Invariant State.QueuesBounded where
  pending := fun _ _ h => h.of_eq rfl rfl
  entry := fun s l v h => (s.modLane_moves l _).queuesBounded h
  ready := fun _ _ h => h.dir _
  hold := fun _ _ _ h => h.dir _
  cold := fun _ => State.reset_queuesBounded.of_eq rfl rfl
  released := fun s h => by
    unfold State.releaseReset
    split
    · exact ⟨h.lookups, h.requests, h.reserved, h.responses, h.notices, h.lost, h.dispositions⟩
    · exact h
  event := fun _ _ _ h e => e.queuesBounded h

/-- Settles O58: every event keeps the queues bounded and each QUERY its place. -/
theorem queuesStayBounded : Obligations.QueuesStayBounded := queuesBounded_invariant.step

/-- Settles O60, block by block at the cold-reset values. -/
theorem resetMeetsTheInvariants : Obligations.ResetMeetsTheInvariants :=
  ⟨fun l => by cases l <;> exact Lane.cold_sound false, State.reset_planLaws,
    State.reset_queuesBounded, ⟨Nat.zero_le _, .nil, by simp [State.reset]⟩,
    ⟨Directory.cold_sound false false, fun _ => rfl⟩⟩

end Sys2Proof.Machine
end

section
/-! SUPPORT. The search of a range table by halving (R122): it answers covering entries alone, and over an
ascending table the entry that covers the account stays in the span it halves. -/

namespace Sys2Proof.Machine

/-- What the search finds is an entry of the table that covers the account. -/
theorem rangeSearch_covers {t : List RangeEntry} {account : Nat} {e : RangeEntry} {fuel low stop : Nat}
    (h : rangeSearch t account fuel low stop = some e) : e ∈ t ∧ e.low ≤ account ∧ account ≤ e.high := by
  induction fuel generalizing low stop with
  | zero => cases h
  | succ fuel ih =>
    unfold rangeSearch at h
    split at h
    · cases h
    · split at h
      · cases h
      · rename_i x hx
        split at h
        · exact ih h
        · rename_i hlow
          split at h
          · exact ih h
          · rename_i hhigh
            cases h
            exact ⟨List.mem_of_getElem? hx, Nat.le_of_not_lt hlow, Nat.le_of_not_lt hhigh⟩

/-- An ascending table: each entry's range is not empty and lies below those behind it. -/
structure RangesAscending (t : List RangeEntry) : Prop where
  apart : t.Pairwise (fun a b => a.high < b.low)
  nonempty : ∀ e ∈ t, e.low ≤ e.high

theorem RangesAscending.high_lt_low {t : List RangeEntry} (h : RangesAscending t) {i j : Nat}
    {a b : RangeEntry} (ha : t[i]? = some a) (hb : t[j]? = some b) (hij : i < j) : a.high < b.low := by
  obtain ⟨hi, rfl⟩ := List.getElem?_eq_some_iff.1 ha
  obtain ⟨hj, rfl⟩ := List.getElem?_eq_some_iff.1 hb
  exact List.pairwise_iff_getElem.1 h.apart i j hi hj hij

/-- The covering entry lies in the lower half exactly below the probed entry, in the upper half exactly
above it. -/
theorem rangeSearch_finds {t : List RangeEntry} (h : RangesAscending t) {account i : Nat} {e : RangeEntry}
    (he : t[i]? = some e) (hlow : e.low ≤ account) (hhigh : account ≤ e.high) (fuel low stop : Nat)
    (hi : low ≤ i ∧ i < stop) (hstop : stop ≤ t.length) (hfuel : stop - low ≤ fuel) :
    rangeSearch t account fuel low stop = some e := by
  induction fuel generalizing low stop with
  | zero => omega
  | succ fuel ih =>
    have hmid : (low + (stop - 1)) / 2 < t.length := by omega
    obtain ⟨x, hx⟩ : ∃ x, t[(low + (stop - 1)) / 2]? = some x := ⟨_, List.getElem?_eq_getElem hmid⟩
    have hmem := h.nonempty _ (List.mem_of_getElem? hx)
    unfold rangeSearch
    rw [if_neg (by omega), hx]
    dsimp only
    rcases Nat.lt_trichotomy i ((low + (stop - 1)) / 2) with hlt | heq | hgt
    · have := h.high_lt_low he hx hlt
      rw [if_pos (by omega)]
      exact ih _ _ ⟨hi.1, hlt⟩ (by omega) (by omega)
    · rw [← heq, he] at hx
      cases hx
      rw [if_neg (by omega), if_neg (by omega)]
    · have := h.high_lt_low hx he hgt
      rw [if_neg (by omega), if_pos (by omega)]
      exact ih _ _ ⟨hgt, hi.2⟩ hstop (by omega)

/-- Settles O42, by induction on the halvings. -/
theorem rangeSearchFindsTheCoveringEntry : Obligations.RangeSearchFindsTheCoveringEntry := by
  intro t account
  refine ⟨fun e h => rangeSearch_covers h, fun hapart hnonempty e he hlow hhigh => ?_⟩
  obtain ⟨i, hi, rfl⟩ := List.mem_iff_getElem.1 he
  exact rangeSearch_finds ⟨hapart, hnonempty⟩ (List.getElem?_eq_getElem hi) hlow hhigh t.length 0 t.length
    ⟨Nat.zero_le _, hi⟩ (Nat.le_refl _) (Nat.sub_le _ _)

end Sys2Proof.Machine
end

section
/-! SUPPORT. The candidate of a scan report (R47), said once for any difference: the fold over the track
keeps the first record with the least difference within the limit. -/

namespace Sys2Proof.Machine

/-- `best` is the first record of `ps` with the least difference, among those within the limit. -/
structure FirstNearest (diff : Piece → Nat) (limit : Nat) (ps : List Piece) (p : Piece) : Prop where
  within : diff p ≤ limit
  least : ∃ before after, ps = before ++ p :: after ∧ (∀ q ∈ before, diff p < diff q) ∧
    ∀ q ∈ after, diff p ≤ diff q

/-- What the fold of `Lane.candidate` holds after the records `ps`. -/
def IsNearest (diff : Piece → Nat) (limit : Nat) (ps : List Piece) : Option Piece → Prop
  | none => ∀ q ∈ ps, limit < diff q
  | some p => FirstNearest diff limit ps p

theorem IsNearest.concat_beyond {diff : Piece → Nat} {limit : Nat} {ps : List Piece} {best : Option Piece}
    (h : IsNearest diff limit ps best) {q : Piece} (hq : limit < diff q) :
    IsNearest diff limit (ps ++ [q]) best := by
  cases best with
  | none =>
    intro x hx
    rcases List.mem_append.1 hx with hx | hx
    · exact h x hx
    · rw [List.mem_singleton.1 hx]; exact hq
  | some p =>
    obtain ⟨hw, before, after, rfl, hb, ha⟩ := h
    refine ⟨hw, before, after ++ [q], by simp, hb, fun x hx => ?_⟩
    rcases List.mem_append.1 hx with hx | hx
    · exact ha x hx
    · rw [List.mem_singleton.1 hx]; omega

/-- One record more: it becomes the candidate if it lies within the limit and nearer than the one
held. -/
theorem IsNearest.concat {diff : Piece → Nat} {limit : Nat} {ps : List Piece} {best : Option Piece}
    (q : Piece) : IsNearest diff limit ps best → IsNearest diff limit (ps ++ [q])
      (if diff q ≤ limit then
        match best with
        | none => some q
        | some b => if diff q < diff b then some q else some b
      else best) := by
  intro h
  split
  · rename_i hq
    cases best with
    | none =>
      exact ⟨hq, ps, [], rfl, fun x hx => Nat.lt_of_le_of_lt hq (h x hx), by simp⟩
    | some b =>
      obtain ⟨hw, before, after, rfl, hb, ha⟩ := h
      dsimp only
      split
      · rename_i hlt
        refine ⟨hq, before ++ b :: after, [], rfl, fun x hx => ?_, by simp⟩
        rcases List.mem_append.1 hx with hx | hx
        · exact hlt.trans (hb x hx)
        · rcases List.mem_cons.1 hx with rfl | hx
          · exact hlt
          · exact Nat.lt_of_lt_of_le hlt (ha x hx)
      · rename_i hge
        refine ⟨hw, before, after ++ [q], by simp, hb, fun x hx => ?_⟩
        rcases List.mem_append.1 hx with hx | hx
        · exact ha x hx
        · rw [List.mem_singleton.1 hx]; omega
  · rename_i hq
    exact h.concat_beyond (Nat.lt_of_not_le hq)

theorem Lane.candidate_isNearest (L : Lane) (offset : Nat) (stamp : Position) :
    IsNearest (fun p => stampDifference stamp (ahead p.lead offset)) L.constants.halfWindow L.track
      (L.candidate offset stamp) := by
  unfold Lane.candidate
  generalize L.track = ps
  induction ps using List.reverseRecOn with
  | nil => exact fun _ hq => by cases hq
  | append_singleton ps q ih =>
    rw [List.foldl_append]
    exact IsNearest.concat q ih

/-- Settles O26: the candidate is the first nearest record, and there is none when every record lies
beyond the half-window. -/
theorem candidateIsNearest : Obligations.CandidateIsNearest := by
  refine ⟨fun _ _ => rfl, fun L offset stamp => ?_⟩
  have h := L.candidate_isNearest offset stamp
  cases hc : L.candidate offset stamp with
  | none =>
    rw [hc] at h
    exact ⟨fun p e => (by cases e), fun _ => h, fun _ => rfl⟩
  | some p =>
    rw [hc] at h
    obtain ⟨hw, before, after, he, hb, ha⟩ := h
    refine ⟨fun q e => ?_, (nofun), fun hall => ?_⟩
    · cases e
      exact ⟨before, after, he, hw, hb, ha⟩
    · exact absurd (hall p (by simp [he])) (Nat.not_lt.2 hw)

end Sys2Proof.Machine
end

section
/-! SUPPORT. The arbiter's choice (R117): the place of the oldest request when aging applies, else the
first place of the highest priority waiting; and what the grant makes of the part (R116). -/

namespace Sys2Proof.Machine

/-- The largest of some numbers is bounded by what bounds each of them. -/
theorem foldl_max_le_iff {ns : List Nat} {a m : Nat} :
    ns.foldl max a ≤ m ↔ a ≤ m ∧ ∀ n ∈ ns, n ≤ m := by
  induction ns generalizing a with
  | nil => simp
  | cons n ns ih => simp [ih, and_assoc]

theorem foldl_max_eq_of_mem {ns : List Nat} {m : Nat} (hm : m ∈ ns) (hmax : ∀ n ∈ ns, n ≤ m) :
    ns.foldl max 0 = m :=
  le_antisymm (foldl_max_le_iff.2 ⟨Nat.zero_le _, hmax⟩)
    ((foldl_max_le_iff.1 le_rfl).2 m hm)

/-- The highest priority waiting is that of a request no other exceeds. -/
theorem LookupUnit.topPriority_eq {u : LookupUnit} {r : LookupRequest} (hr : r ∈ u.queue)
    (hmax : ∀ x ∈ u.queue, u.priority x ≤ u.priority r) : u.topPriority = u.priority r :=
  foldl_max_eq_of_mem (List.mem_map_of_mem hr) (by simpa using hmax)

/-- The place the arbiter chooses is that of the oldest request when aging applies, else that of the
first of the highest priority. -/
theorem LookupUnit.choice_eq_length {u : LookupUnit} {before after : List LookupRequest}
    {r : LookupRequest} (hq : u.queue = before ++ r :: after)
    (hr : if 1 ≤ u.ageLimit ∧ u.ageLimit ≤ u.passCount then before = []
      else (∀ x ∈ before, u.priority x < u.priority r) ∧ ∀ x ∈ after, u.priority x ≤ u.priority r) :
    u.choice = before.length := by
  unfold LookupUnit.choice
  split at hr
  next aging => simp [aging, hr]
  next aging =>
    obtain ⟨lower, behind⟩ := hr
    have top : u.topPriority = u.priority r := by
      refine topPriority_eq (by simp [hq]) fun x hx => ?_
      rw [hq, List.mem_append, List.mem_cons] at hx
      obtain hx | rfl | hx := hx
      · exact (lower x hx).le
      · exact le_rfl
      · exact behind x hx
    have none_before : before.findIdx (fun x => u.priority x = u.priority r) = before.length :=
      List.findIdx_eq_length.2 fun x hx => by simp [(lower x hx).ne]
    rw [if_neg aging, hq, top, List.findIdx_append, none_before]
    simp [List.findIdx_cons]

/-- The unit after the grant of the request the arbiter chooses. -/
theorem LookupUnit.granted_eq {u : LookupUnit} {before after : List LookupRequest}
    {r : LookupRequest} (hq : u.queue = before ++ r :: after) :
    u.granted before.length r = { u with
      queue := before ++ after
      engine := some ⟨r, .hot, none, .clear⟩
      passCount := if before ++ after = [] ∨ u.ageLimit = 0 ∨ before = [] then 0
        else min 255 (u.passCount + 1) } := by
  have rest : u.queue.eraseIdx before.length = before ++ after := by
    simp [hq, List.eraseIdx_append_of_length_le]
  simp [LookupUnit.granted, LookupUnit.passAfter, rest]

theorem State.grant_of_busy {s : State} (h : s.lookup.engine ≠ none ∨ s.lookup.queue = []) :
    s.grant = s := by
  unfold State.grant
  obtain busy | empty := h
  · cases he : s.lookup.engine with
    | none => exact absurd he busy
    | some job => rfl
  · cases s.lookup.engine <;> simp [empty]

section
variable {s : State} {before after : List LookupRequest} {r : LookupRequest}

/-- The unit takes the request at the arbiter's choice. -/
theorem State.queue_choice (hq : s.lookup.queue = before ++ r :: after)
    (hc : s.lookup.choice = before.length) : s.lookup.queue[s.lookup.choice]? = some r := by
  simp [hc, hq]

theorem State.grant_of_piece {l : LaneId} {n : Nat} (free : s.lookup.engine = none)
    (hq : s.lookup.queue = before ++ r :: after) (hc : s.lookup.choice = before.length)
    (hr : r.requester = .piece l n) :
    s.grant = { s with lookup := s.lookup.granted before.length r }.modPiece l n
      (fun p => { p with lookup := .inProgress }) := by
  simp only [State.grant, free, State.queue_choice hq hc, hr]
  rw [hc]

theorem State.grant_of_query {t : Nat} (free : s.lookup.engine = none)
    (hq : s.lookup.queue = before ++ r :: after) (hc : s.lookup.choice = before.length)
    (hr : r.requester = .query t) :
    s.grant = { s with lookup := s.lookup.granted before.length r } := by
  simp only [State.grant, free, State.queue_choice hq hc, hr]
  rw [hc]

end

/-- Settles O40: the arbiter's choice is a place in the queue, and the grant takes the request there. -/
theorem arbiterGrants : Obligations.ArbiterGrants := by
  intro s
  refine ⟨State.grant_of_busy, fun before r after prio u hprio free hq chosen hu => ?_⟩
  obtain rfl : prio = s.lookup.priority := funext fun x => hprio x
  have hc := LookupUnit.choice_eq_length hq chosen
  obtain rfl : u = { s with lookup := s.lookup.granted before.length r } := by
    rw [LookupUnit.granted_eq hq]
    exact hu
  exact ⟨fun l n => State.grant_of_piece free hq hc, fun t => State.grant_of_query free hq hc⟩

end Sys2Proof.Machine
end

section
/-! SUPPORT. The consistency test (R8): what each of its conditions says of the constants, and the
order in which the test finds the one that fails. -/

namespace Sys2Proof.Machine

/-- In an ascending list the first element with a property is the lowest. -/
theorem find?_eq_some_of_lowest {α : Type} [Preorder α] {xs : List α} {p : α → Bool} {a : α}
    (ascending : xs.Pairwise (· < ·)) (ha : a ∈ xs) (hp : p a = true)
    (lowest : ∀ x ∈ xs, x < a → p x = false) : xs.find? p = some a := by
  obtain ⟨i, hi, rfl⟩ := List.getElem_of_mem ha
  refine List.find?_eq_some_iff_getElem.2 ⟨hp, i, hi, rfl, fun j hj => ?_⟩
  simpa using lowest _ (List.getElem_mem _) (List.pairwise_iff_getElem.1 ascending j i _ hi hj)

theorem Constants.distance_succ (c : Constants) (g : Gate) :
    c.distance (g.val + 1) = c.gates[g.val].distance := by
  simp [Constants.distance, gateOf_succ, Constants.gate]

/-! ### Condition 2 -/

/-- The gates 2 to G whose distances condition 2 compares. -/
theorem mem_compared_gates {c : Constants} (hG : c.gateCount ≤ 12) (g : Nat) :
    g ∈ [2, 3, 4, 5, 6, 7, 8, 9, 10, 11, 12].filter (fun g => g ≤ c.gateCount) ↔
      2 ≤ g ∧ g ≤ c.gateCount := by
  simp only [List.mem_filter, List.mem_cons, List.not_mem_nil, or_false, decide_eq_true_eq]
  omega

theorem Constants.unordered_eq_none_iff {c : Constants} (hG : c.gateCount ≤ 12) :
    c.unordered = none ↔ ∀ g : Nat, 2 ≤ g → g ≤ c.gateCount → c.distance (g - 1) < c.distance g := by
  simp only [Constants.unordered, List.find?_eq_none, mem_compared_gates hG]
  simp

theorem Constants.unordered_eq_some {c : Constants} (hG : c.gateCount ≤ 12) {g : Nat} (h2 : 2 ≤ g)
    (hg : g ≤ c.gateCount) (fails : ¬ c.distance (g - 1) < c.distance g)
    (lowest : ∀ g' : Nat, 2 ≤ g' → g' < g → c.distance (g' - 1) < c.distance g') :
    c.unordered = some g := by
  refine find?_eq_some_of_lowest ?_ ((mem_compared_gates hG g).2 ⟨h2, hg⟩) (by simpa using fails) ?_
  · exact List.Pairwise.filter _ (by decide)
  · intro x hx hlt
    simpa using lowest x ((mem_compared_gates hG x).1 hx).1 hlt

/-! ### Condition 6 -/

theorem Constants.mem_offsets_iff {c : Constants} {x : Nat} :
    x ∈ c.headOffset.toList.take c.headCount ↔
      ∃ h : HeadId, h.val < c.headCount ∧ c.headOffset[h.val] = x := by
  rw [List.mem_take_iff_getElem]
  constructor
  · rintro ⟨i, hi, rfl⟩
    have hi' : i < c.headCount ∧ i < 4 := by simpa using hi
    exact ⟨⟨i, hi'.2⟩, hi'.1, by simp⟩
  · rintro ⟨h, hh, rfl⟩
    exact ⟨h.val, by simp [hh], by simp⟩

/-- Condition 6 says of the largest offset what it says of each, and of none the same of 0. -/
theorem Constants.largestOffset_fits_iff {c : Constants} :
    c.largestOffset + c.halfWindow ≤ c.readClose ↔
      (∀ h : HeadId, h.val < c.headCount → c.headOffset[h.val] + c.halfWindow ≤ c.readClose) ∧
        c.halfWindow ≤ c.readClose := by
  have bound : c.largestOffset ≤ c.readClose - c.halfWindow ↔
      ∀ h : HeadId, h.val < c.headCount → c.headOffset[h.val] ≤ c.readClose - c.halfWindow := by
    simp only [Constants.largestOffset, foldl_max_le_iff, Constants.mem_offsets_iff]
    constructor
    · exact fun h g hg => h.2 _ ⟨g, hg, rfl⟩
    · rintro h
      refine ⟨Nat.zero_le _, ?_⟩
      rintro _ ⟨g, hg, rfl⟩
      exact h g hg
  constructor
  · intro h
    have half : c.halfWindow ≤ c.readClose := by omega
    refine ⟨fun g hg => ?_, half⟩
    have := bound.1 (by omega) g hg
    omega
  · rintro ⟨each, half⟩
    have := bound.2 fun g hg => by
      have := each g hg
      omega
    omega

/-! ### The test -/

/-- The conditions of R8 by their numbers, as the test reads them. -/
def Constants.condition (c : Constants) : Nat → Prop
  | 1 => 1 ≤ c.gateCount
  | 2 => c.unordered = none
  | 3 => c.distance c.gateCount < c.runoutDistance
  | 4 => c.lengthMin ≤ c.lengthMax
  | 5 => c.lengthMax ≤ c.readClose
  | 6 => c.largestOffset + c.halfWindow ≤ c.readClose
  | 7 => c.readClose + c.guardMargin < c.distance 1
  | _ => True

theorem Constants.inconsistency_eq_none_iff {c : Constants} :
    c.inconsistency = none ↔ c.condition 1 ∧ c.condition 2 ∧ c.condition 3 ∧ c.condition 4 ∧
      c.condition 5 ∧ c.condition 6 ∧ c.condition 7 := by
  simp only [Constants.inconsistency, Constants.condition]
  cases c.unordered <;> grind

/-- A failing condition after conditions that hold is what the test names. -/
theorem Constants.inconsistency_of_first_failing {c : Constants} {n item : Nat}
    (hn : (n, item) ∈ [(1, 1), (3, 6), (4, 13), (5, 11), (6, 11), (7, 11)])
    (before : ∀ m, 1 ≤ m → m < n → c.condition m) (fails : ¬ c.condition n) :
    c.inconsistency = some ⟨n, item, none⟩ := by
  simp only [List.mem_cons, Prod.mk.injEq, List.not_mem_nil, or_false] at hn
  have h1 := before 1 le_rfl
  have h2 := before 2 (by omega)
  have h3 := before 3 (by omega)
  have h4 := before 4 (by omega)
  have h5 := before 5 (by omega)
  have h6 := before 6 (by omega)
  simp only [Constants.condition] at h1 h2 h3 h4 h5 h6
  unfold Constants.inconsistency
  obtain ⟨rfl, rfl⟩ | ⟨rfl, rfl⟩ | ⟨rfl, rfl⟩ | ⟨rfl, rfl⟩ | ⟨rfl, rfl⟩ | ⟨rfl, rfl⟩ := hn <;>
    simp_all [Constants.condition] <;> grind

theorem Constants.inconsistency_of_unordered {c : Constants} {g : Nat} (some_gate : 1 ≤ c.gateCount)
    (h : c.unordered = some g) : c.inconsistency = some ⟨2, 2, some g⟩ := by
  simp [Constants.inconsistency, h, Nat.not_lt.2 some_gate]

/-- Settles O15: the test's conditions are those of R8, and it names the first that fails. -/
theorem consistencyTestConditions : Obligations.ConsistencyTestConditions := by
  refine ⟨Constants.distance_succ, fun c hG _ => ⟨?_, fun holds h1 h2 h3 h4 h5 h6 h7 => ⟨?_, ?_⟩⟩⟩
  · simp only [Constants.inconsistency_eq_none_iff, Constants.condition,
      Constants.unordered_eq_none_iff hG, Constants.largestOffset_fits_iff, and_assoc]
  · intro n item hn before fails
    have agrees : ∀ m, 1 ≤ m → m ≤ 7 → (holds m ↔ c.condition m) := by
      intro m hm hm'
      interval_cases m
      · exact h1
      · exact h2.trans (Constants.unordered_eq_none_iff hG).symm
      · exact h3
      · exact h4
      · exact h5
      · exact h6.trans Constants.largestOffset_fits_iff.symm
      · exact h7
    have n_le : 1 ≤ n ∧ n ≤ 7 := by
      simp only [List.mem_cons, Prod.mk.injEq, List.not_mem_nil, or_false] at hn
      omega
    exact Constants.inconsistency_of_first_failing hn
      (fun m hm hlt => (agrees m hm (by omega)).1 (before m hm hlt))
      (fun h => fails ((agrees n n_le.1 n_le.2).2 h))
  · exact fun g h2 hg fails lowest => Constants.inconsistency_of_unordered (by omega)
      (Constants.unordered_eq_some hG h2 hg fails lowest)

end Sys2Proof.Machine
end

section
/-! SUPPORT. The read outcome of a record (R53 to R61): the format a string takes, the vote over the
valid reads, and the key read from the winning string. -/

namespace Sys2Proof.Machine

/-- The first element with a property is found behind elements without it. -/
theorem find?_append_cons {α : Type} {p : α → Bool} {before after : List α} {a : α} (hp : p a = true)
    (hbefore : ∀ x ∈ before, p x = false) : (before ++ a :: after).find? p = some a :=
  List.find?_eq_some_iff_append.2 ⟨hp, before, after, rfl, by simpa using hbefore⟩

/-! ### Formats and valid reads -/

theorem FormatEntry.fits_iff {f : FormatEntry} {str : List Digit} :
    f.fits str = true ↔ f.pfx <+: str ∧ str.length = f.codeLength := by
  rw [FormatEntry.fits, Bool.and_eq_true, decide_eq_true_eq, decide_eq_true_eq, List.prefix_iff_eq_take,
    and_comm, eq_comm (a := f.pfx)]

theorem readClass_of_no_format {fs : List FormatEntry} {str : List Digit}
    (h : formatFor fs str = none) : readClass fs str = .noformat := by
  simp [readClass, h]

theorem readClass_of_format {fs : List FormatEntry} {str : List Digit} {f : FormatEntry}
    (h : formatFor fs str = some f) :
    readClass fs str = if checkPasses f.scheme str then .valid f else .checkfail := by
  simp [readClass, h]

theorem isValidRead_iff {fs : List FormatEntry} {str : List Digit} :
    isValidRead fs str = true ↔ ∃ f, formatFor fs str = some f ∧ checkPasses f.scheme str = true := by
  cases h : formatFor fs str with
  | none => simp [isValidRead, readClass_of_no_format h]
  | some f => by_cases hc : checkPasses f.scheme str = true <;>
      simp [isValidRead, readClass_of_format h, hc]

/-- A string that is no valid read failed its check exactly when it takes a format. -/
theorem readClass_eq_checkfail_iff {fs : List FormatEntry} {str : List Digit}
    (invalid : isValidRead fs str = false) :
    readClass fs str = .checkfail ↔ formatFor fs str ≠ none := by
  cases h : formatFor fs str with
  | none => simp [readClass_of_no_format h]
  | some f =>
    have fails : checkPasses f.scheme str ≠ true := fun hc =>
      absurd (isValidRead_iff.2 ⟨f, h, hc⟩) (by simp [invalid])
    simp [readClass_of_format h, fails]

/-! ### The read outcome -/

theorem readOutcome_of_valid {fs : List FormatEntry} {reports : Vector (Option Report) 4}
    (h : ∃ str ∈ goodStrings reports, isValidRead fs str = true) :
    readOutcome fs reports = vote fs ((goodStrings reports).filter (isValidRead fs)) := by
  have : (goodStrings reports).filter (isValidRead fs) ≠ [] := by
    simpa [List.filter_eq_nil_iff] using h
  simp only [readOutcome, if_pos this]

theorem readOutcome_of_no_valid {fs : List FormatEntry} {reports : Vector (Option Report) 4}
    (h : ∀ str ∈ goodStrings reports, isValidRead fs str = false) :
    readOutcome fs reports =
      if ∃ str ∈ goodStrings reports, formatFor fs str ≠ none then .checkfail
      else if goodStrings reports ≠ [] then .noformat else .noread := by
  have none_valid : (goodStrings reports).filter (isValidRead fs) = [] := by
    simpa [List.filter_eq_nil_iff] using h
  have failed : ((goodStrings reports).any fun x => readClass fs x = .checkfail) = true ↔
      ∃ str ∈ goodStrings reports, formatFor fs str ≠ none := by
    simp only [List.any_eq_true, decide_eq_true_eq]
    exact exists_congr fun str =>
      and_congr_right fun hstr => readClass_eq_checkfail_iff (h str hstr)
  simp only [readOutcome, none_valid, ne_eq, not_true_eq_false, if_false, failed]

/-! ### The vote -/

/-- The string's group is larger than every other group. -/
def Wins (reads : List (List Digit)) (str : List Digit) : Prop :=
  ∀ other ∈ reads, other ≠ str → groupSize reads other < groupSize reads str

theorem Wins.unique {reads : List (List Digit)} {a b : List Digit} (ha : a ∈ reads) (hb : b ∈ reads)
    (wa : Wins reads a) (wb : Wins reads b) : a = b := by
  by_contra hne
  exact absurd (wa b hb (Ne.symm hne)) (Nat.lt_asymm (wb a ha hne))

theorem leads_iff {reads : List (List Digit)} {a : List Digit} :
    (reads.all fun b => b = a || groupSize reads b < groupSize reads a) = true ↔ Wins reads a := by
  simp [Wins, or_iff_not_imp_left]

theorem winner_eq_some_iff {reads : List (List Digit)} {w : List Digit} :
    winner reads = some w ↔ w ∈ reads ∧ Wins reads w := by
  constructor
  · intro h
    unfold winner at h
    have := List.find?_some h
    exact ⟨List.mem_of_find?_eq_some h, leads_iff.1 this⟩
  · rintro ⟨hw, wins⟩
    cases h : winner reads with
    | none => exact absurd (leads_iff.2 wins) (by simpa using List.find?_eq_none.1 h w hw)
    | some a =>
      unfold winner at h
      have leads := List.find?_some h
      have found := leads_iff.1 leads
      rw [Wins.unique (List.mem_of_find?_eq_some h) hw found wins]

theorem winner_eq_none_iff {reads : List (List Digit)} :
    winner reads = none ↔ ¬ ∃ w ∈ reads, Wins reads w := by
  simp only [winner, List.find?_eq_none, leads_iff, not_exists, not_and]

theorem vote_of_winner {fs : List FormatEntry} {reads : List (List Digit)} {w : List Digit}
    (h : winner reads = some w) :
    vote fs reads = .resolved w ((formatFor fs w).map FormatEntry.number |>.getD 0)
      (reads.any fun b => b ≠ w) := by
  simp only [vote, h]

theorem vote_of_no_winner {fs : List FormatEntry} {reads : List (List Digit)}
    (h : winner reads = none) : vote fs reads = .multi := by
  simp only [vote, h]

theorem vote_eq_multi_iff {fs : List FormatEntry} {reads : List (List Digit)} :
    vote fs reads = .multi ↔ winner reads = none := by
  cases h : winner reads with
  | none => simp [vote_of_no_winner h]
  | some w => simp [vote_of_winner h]

/-! ### The key -/

theorem digitsValue_concat (ds : List Digit) (d : Digit) :
    digitsValue (ds ++ [d]) = 10 * digitsValue ds + d.val := by
  simp [digitsValue]

theorem digitsValue_eq_ofDigits (ds : List Digit) :
    digitsValue ds = Nat.ofDigits 10 (ds.reverse.map Fin.val) := by
  induction ds using List.reverseRecOn with
  | nil => rfl
  | append_singleton ds d ih => simp [digitsValue_concat, ih, Nat.ofDigits_cons, Nat.add_comm]

/-- Settles O25: the format, the outcome, the vote, the key and the service class, each by its rule. -/
theorem readOutcomeKeyAndClass : Obligations.ReadOutcomeKeyAndClass := by
  refine ⟨fun fs str matching hm => ?_, fun data d scheme => ?_, ?_, fun fs reads => ?_, ?_, ?_,
    fun o b => ⟨rfl, rfl⟩, rfl, rfl, rfl, rfl, fun _ _ _ => rfl⟩
  · have fits : ∀ f : FormatEntry, f.fits str = true ↔ matching f := fun f =>
      FormatEntry.fits_iff.trans (hm f).symm
    refine ⟨?_, fun h => ?_, isValidRead_iff⟩
    · rintro before f after rfl hf hbefore
      exact find?_append_cons ((fits f).2 hf) fun e he => by
        simpa using mt (fits e).1 (hbefore e he)
    · exact List.find?_eq_none.2 fun f hf => mt (fits f).1 (h f hf)
  · exact checkPasses_concat_iff ..
  · rintro fs reports _ rfl
    refine ⟨readOutcome_of_valid, fun invalid => ?_⟩
    rw [readOutcome_of_no_valid (show ∀ str ∈ goodStrings reports, _ from invalid)]
    refine ⟨fun h => if_pos h, fun h => ?_⟩
    rw [if_neg fun ⟨str, hstr, hne⟩ => hne (h str hstr)]
    exact ⟨fun hne => if_pos hne, fun he => if_neg (not_not.2 he)⟩
  · refine ⟨fun str c f h => ?_, fun str hstr wins => ?_, ?_⟩
    · cases hw : winner reads with
      | none => simp [vote_of_no_winner hw] at h
      | some w =>
        rw [vote_of_winner hw, ReadOutcome.resolved.injEq] at h
        obtain ⟨rfl, rfl, rfl⟩ := h
        obtain ⟨hmem, wins⟩ := winner_eq_some_iff.1 hw
        exact ⟨hmem, wins, by simp, rfl⟩
    · exact ⟨_, _, vote_of_winner (winner_eq_some_iff.2 ⟨hstr, wins⟩)⟩
    · exact vote_eq_multi_iff.trans winner_eq_none_iff
  · intro fs str n c f number hnumber hf
    obtain rfl : number = digitsValue := funext fun ds => by
      rw [hnumber, digitsValue_eq_ofDigits]
    simp [outcomeKey, hf, keyOf, fieldDigits]
  · rintro fs o (rfl | rfl | rfl | rfl) <;> rfl

end Sys2Proof.Machine
end

section
/-! SUPPORT. The verdict of the plan checker (R80 to R82): each table's first failing test, the tests of
one entry in the order of their codes, and what a slot that passes has in its tables. -/

namespace Sys2Proof.Machine

/-! ### Earlier entries of a table -/

theorem exists_mem_take_iff {α : Type} {es : List α} {i : Nat} {P : α → Prop} :
    (∃ x ∈ es.take i, P x) ↔ ∃ j x, j < i ∧ es[j]? = some x ∧ P x := by
  constructor
  · rintro ⟨x, hx, hP⟩
    obtain ⟨j, hj, rfl⟩ := List.mem_take_iff_getElem.1 hx
    exact ⟨j, _, by omega, List.getElem?_eq_getElem (by omega), hP⟩
  · rintro ⟨j, x, hj, hx, hP⟩
    obtain ⟨hlen, rfl⟩ := List.getElem?_eq_some_iff.1 hx
    exact ⟨_, List.mem_take_iff_getElem.2 ⟨j, by omega, rfl⟩, hP⟩

theorem getLast?_take_any_iff {α : Type} {es : List α} {i : Nat} {e : α} {p : α → Bool}
    (he : es[i]? = some e) :
    (es.take i).getLast?.any p = true ↔ ∃ j x, i = j + 1 ∧ es[j]? = some x ∧ p x = true := by
  obtain ⟨hlen, -⟩ := List.getElem?_eq_some_iff.1 he
  cases i with
  | zero => simp
  | succ i =>
    have hi : es[i]? = some es[i] := List.getElem?_eq_getElem (by omega)
    simp [List.getLast?_take, hi]

/-! ### The tests of R80 and R81 -/

/-- A test of the checker fails for an entry of a table of the slot. -/
def PlanSlot.Fails (k : PlanSlot) (t : TableId) (i : Nat) (e : ErrorKind) : Prop :=
  match t, e with
  | .format, .formatField => ∃ f, k.formats[i]? = some f ∧
      (f.codeLength < f.accountStart + f.accountLength ∨
        f.doctypeLength ≠ 0 ∧ (f.codeLength < f.doctypeStart + f.doctypeLength ∨
          f.accountStart < f.doctypeStart + f.doctypeLength ∧
            f.doctypeStart < f.accountStart + f.accountLength))
  | .format, .formatShadowed => ∃ f, k.formats[i]? = some f ∧ ∃ j x, j < i ∧
      k.formats[j]? = some x ∧ x.pfx = f.pfx ∧ x.codeLength = f.codeLength
  | .range, .rangeInverted => ∃ r, k.ranges[i]? = some r ∧ r.high < r.low
  | .range, .rangeOrder => ∃ r, k.ranges[i]? = some r ∧ ∃ j x, i = j + 1 ∧
      k.ranges[j]? = some x ∧ r.low ≤ x.high
  | .range, .classUndefined => ∃ r, k.ranges[i]? = some r ∧ k.classDefined r.cls = false
  | .doctype, .classUndefined => ∃ d, k.doctypes[i]? = some d ∧ k.classDefined d.cls = false
  | .doctype, .doctypeDuplicate => ∃ d, k.doctypes[i]? = some d ∧ ∃ j x, j < i ∧
      k.doctypes[j]? = some x ∧ x.doctype = d.doctype
  | .settings, .classUndefined => i = 0 ∧ k.classDefined k.settings.defaultClass = false
  | .cls, .serviceUndefined => k.settings.serviceRouting = .plan ∧ i ≤ 7 ∧ k.classDefined i = false
  | _, _ => False

/-- The first failing test of one entry, by the order of the error kinds. -/
def FirstKind (fails : ErrorKind → Prop) : Option ErrorKind → Prop
  | none => ∀ e, ¬ fails e
  | some e => fails e ∧ ∀ e', fails e' → e.code ≤ e'.code

/-- The first failing test of one table, by index and then by kind. -/
def FirstError (t : TableId) (fails : Nat → ErrorKind → Prop) : Option CheckError → Prop
  | none => ∀ i e, ¬ fails i e
  | some x => x.table = t ∧ fails x.index x.kind ∧
      ∀ j e, fails j e → x.index < j ∨ x.index = j ∧ x.kind.code ≤ e.code

/-- The tests of a table run along its entries. -/
theorem tableError_first {α : Type} {t : TableId} {err : List α → α → Option ErrorKind}
    {fails : Nat → ErrorKind → Prop} (es earlier : List α)
    (entry : ∀ i e, (earlier ++ es)[i]? = some e →
      FirstKind (fails i) (err ((earlier ++ es).take i) e))
    (passed : ∀ i, i < earlier.length → ∀ e, ¬ fails i e)
    (inside : ∀ i e, fails i e → i < (earlier ++ es).length) :
    FirstError t fails (tableError t err earlier es) := by
  induction es generalizing earlier with
  | nil => exact fun i e h => passed i (by simpa using inside i e h) e h
  | cons x es ih =>
    have here := entry earlier.length x (by simp)
    rw [List.take_left] at here
    unfold tableError
    cases hx : err earlier x with
    | some kind =>
      rw [hx] at here
      obtain ⟨fails_here, least⟩ := here
      refine ⟨rfl, fails_here, fun j e h => ?_⟩
      obtain hj | rfl | hj := Nat.lt_trichotomy earlier.length j
      · exact .inl hj
      · exact .inr ⟨rfl, least e h⟩
      · exact absurd h (passed j hj e)
    | none =>
      rw [hx] at here
      have shift : earlier ++ [x] ++ es = earlier ++ x :: es := by simp
      refine ih (earlier ++ [x]) (by rwa [shift]) (fun i hi e => ?_) (by rwa [shift])
      obtain hi | rfl : i < earlier.length ∨ i = earlier.length := by
        simp only [List.length_append, List.length_singleton] at hi
        omega
      · exact passed i hi e
      · exact here e

theorem FormatEntry.field_fails_iff {f : FormatEntry} :
    (f.codeLength < f.accountStart + f.accountLength ∨
      f.doctypeLength ≠ 0 ∧ (f.codeLength < f.doctypeStart + f.doctypeLength ∨
        f.accountStart < f.doctypeStart + f.doctypeLength ∧
          f.doctypeStart < f.accountStart + f.accountLength)) ↔
      f.accountFits = false ∨ f.doctypeFits = false ∨ f.fieldsOverlap = true := by
  simp only [FormatEntry.accountFits, FormatEntry.doctypeFits, FormatEntry.fieldsOverlap]
  grind

/-- A test ahead of the others in an entry's tests. -/
theorem FirstKind.test {fails : ErrorKind → Prop} {c : Prop} [Decidable c] {e : ErrorKind}
    {o : Option ErrorKind} (he : fails e ↔ c) (least : ∀ e', fails e' → e.code ≤ e'.code)
    (rest : ¬ fails e → FirstKind fails o) : FirstKind fails (if c then some e else o) := by
  split
  next hc => exact ⟨he.2 hc, least⟩
  next hc => exact rest (mt he.1 hc)

theorem formatError_eq (earlier : List FormatEntry) (f : FormatEntry) :
    formatError earlier f =
      if f.accountFits = false ∨ f.doctypeFits = false ∨ f.fieldsOverlap = true then some .formatField
      else if (earlier.any fun e => e.pfx = f.pfx && e.codeLength = f.codeLength) = true then
        some .formatShadowed
      else none := by
  unfold formatError
  grind

theorem PlanSlot.formatError_first (k : PlanSlot) {i : Nat} {f : FormatEntry}
    (hf : k.formats[i]? = some f) :
    FirstKind (k.Fails .format i) (formatError (k.formats.take i) f) := by
  have field : k.Fails .format i .formatField ↔
      f.accountFits = false ∨ f.doctypeFits = false ∨ f.fieldsOverlap = true := by
    simp only [← FormatEntry.field_fails_iff, PlanSlot.Fails, hf, Option.some.injEq, exists_eq_left']
  have shadowed : k.Fails .format i .formatShadowed ↔
      ((k.formats.take i).any fun e => e.pfx = f.pfx && e.codeLength = f.codeLength) = true := by
    simp only [PlanSlot.Fails, hf, Option.some.injEq, exists_eq_left', List.any_eq_true,
      Bool.and_eq_true, decide_eq_true_eq, exists_mem_take_iff]
  have kinds : ∀ e, k.Fails .format i e → e = .formatField ∨ e = .formatShadowed := fun e h => by
    cases e with
    | formatField => exact .inl rfl
    | formatShadowed => exact .inr rfl
    | _ => exact h.elim
  rw [formatError_eq]
  refine .test field (fun e h => ?_) fun no_field => .test shadowed (fun e h => ?_)
    fun no_shadow e h => ?_
  · obtain rfl | rfl := kinds e h <;> decide
  · obtain rfl | rfl := kinds e h
    · exact absurd h no_field
    · exact le_rfl
  · obtain rfl | rfl := kinds e h
    · exact no_field h
    · exact no_shadow h

theorem PlanSlot.rangeError_first (k : PlanSlot) {i : Nat} {r : RangeEntry}
    (hr : k.ranges[i]? = some r) :
    FirstKind (k.Fails .range i) (rangeError k.classDefined (k.ranges.take i) r) := by
  have inverted : k.Fails .range i .rangeInverted ↔ r.high < r.low := by
    simp only [PlanSlot.Fails, hr, Option.some.injEq, exists_eq_left']
  have order : k.Fails .range i .rangeOrder ↔
      ((k.ranges.take i).getLast?.any fun p => r.low ≤ p.high) = true := by
    simp only [PlanSlot.Fails, hr, Option.some.injEq, exists_eq_left', getLast?_take_any_iff hr,
      decide_eq_true_eq]
  have undefined : k.Fails .range i .classUndefined ↔ k.classDefined r.cls = false := by
    simp only [PlanSlot.Fails, hr, Option.some.injEq, exists_eq_left']
  have kinds : ∀ e, k.Fails .range i e → e = .rangeInverted ∨ e = .rangeOrder ∨ e = .classUndefined :=
    fun e h => by
      cases e with
      | rangeInverted => exact .inl rfl
      | rangeOrder => exact .inr (.inl rfl)
      | classUndefined => exact .inr (.inr rfl)
      | _ => exact h.elim
  refine .test inverted (fun e h => ?_) fun no_inverted => .test order (fun e h => ?_)
    fun no_order => .test undefined (fun e h => ?_) fun no_undefined e h => ?_
  · obtain rfl | rfl | rfl := kinds e h <;> decide
  · obtain rfl | rfl | rfl := kinds e h
    · exact absurd h no_inverted
    · exact le_rfl
    · decide
  · obtain rfl | rfl | rfl := kinds e h
    · exact absurd h no_inverted
    · exact absurd h no_order
    · exact le_rfl
  · obtain rfl | rfl | rfl := kinds e h
    · exact no_inverted h
    · exact no_order h
    · exact no_undefined h

theorem PlanSlot.doctypeError_first (k : PlanSlot) {i : Nat} {d : DoctypeEntry}
    (hd : k.doctypes[i]? = some d) :
    FirstKind (k.Fails .doctype i) (doctypeError k.classDefined (k.doctypes.take i) d) := by
  have undefined : k.Fails .doctype i .classUndefined ↔ k.classDefined d.cls = false := by
    simp only [PlanSlot.Fails, hd, Option.some.injEq, exists_eq_left']
  have duplicate : k.Fails .doctype i .doctypeDuplicate ↔
      ((k.doctypes.take i).any fun p => p.doctype = d.doctype) = true := by
    simp only [PlanSlot.Fails, hd, Option.some.injEq, exists_eq_left', List.any_eq_true,
      decide_eq_true_eq, exists_mem_take_iff]
  have kinds : ∀ e, k.Fails .doctype i e → e = .classUndefined ∨ e = .doctypeDuplicate := fun e h => by
    cases e with
    | classUndefined => exact .inl rfl
    | doctypeDuplicate => exact .inr rfl
    | _ => exact h.elim
  refine .test undefined (fun e h => ?_) fun no_undefined => .test duplicate (fun e h => ?_)
    fun no_duplicate e h => ?_
  · obtain rfl | rfl := kinds e h <;> decide
  · obtain rfl | rfl := kinds e h
    · exact absurd h no_undefined
    · exact le_rfl
  · obtain rfl | rfl := kinds e h
    · exact no_undefined h
    · exact no_duplicate h

/-! ### The tables in their order -/

theorem PlanSlot.formats_first (k : PlanSlot) :
    FirstError .format (k.Fails .format) (tableError .format formatError [] k.formats) := by
  refine tableError_first k.formats [] (fun i f => k.formatError_first) nofun fun i e h => ?_
  cases e with
  | formatField | formatShadowed =>
    obtain ⟨_, hi, -⟩ := h
    exact (List.getElem?_eq_some_iff.1 hi).1
  | _ => exact h.elim

theorem PlanSlot.ranges_first (k : PlanSlot) :
    FirstError .range (k.Fails .range) (tableError .range (rangeError k.classDefined) [] k.ranges) := by
  refine tableError_first k.ranges [] (fun i r => k.rangeError_first) nofun fun i e h => ?_
  cases e with
  | rangeInverted | rangeOrder | classUndefined =>
    obtain ⟨_, hi, -⟩ := h
    exact (List.getElem?_eq_some_iff.1 hi).1
  | _ => exact h.elim

theorem PlanSlot.doctypes_first (k : PlanSlot) :
    FirstError .doctype (k.Fails .doctype)
      (tableError .doctype (doctypeError k.classDefined) [] k.doctypes) := by
  refine tableError_first k.doctypes [] (fun i d => k.doctypeError_first) nofun fun i e h => ?_
  cases e with
  | classUndefined | doctypeDuplicate =>
    obtain ⟨_, hi, -⟩ := h
    exact (List.getElem?_eq_some_iff.1 hi).1
  | _ => exact h.elim

/-- The error of the settings, and that of the service classes. -/
def PlanSlot.defaultError (k : PlanSlot) : Option CheckError :=
  if k.classDefined k.settings.defaultClass = false then some ⟨.settings, 0, .classUndefined⟩ else none

def PlanSlot.serviceError (k : PlanSlot) : Option CheckError :=
  if k.settings.serviceRouting = .plan then
    ([0, 1, 2, 3, 4, 5, 6, 7].find? (fun c => !k.classDefined c)).map
      (fun c => ⟨.cls, c, .serviceUndefined⟩)
  else none

theorem PlanSlot.settingsError_eq (k : PlanSlot) :
    settingsError k = k.defaultError.or k.serviceError := by
  unfold settingsError PlanSlot.defaultError PlanSlot.serviceError
  split <;> rfl

theorem PlanSlot.default_first (k : PlanSlot) :
    FirstError .settings (k.Fails .settings) k.defaultError := by
  unfold PlanSlot.defaultError
  split
  next undefined =>
    refine ⟨rfl, ⟨rfl, undefined⟩, fun j e h => ?_⟩
    cases e with
    | classUndefined => exact .inr ⟨h.1.symm, le_rfl⟩
    | _ => exact h.elim
  next defined =>
    intro i e h
    cases e with
    | classUndefined => exact defined h.2
    | _ => exact h

theorem PlanSlot.service_first (k : PlanSlot) : FirstError .cls (k.Fails .cls) k.serviceError := by
  have only : ∀ i e, k.Fails .cls i e → e = .serviceUndefined ∧
      k.settings.serviceRouting = .plan ∧ i ≤ 7 ∧ k.classDefined i = false := fun i e h => by
    cases e with
    | serviceUndefined => exact ⟨rfl, h⟩
    | _ => exact h.elim
  unfold PlanSlot.serviceError
  rw [show [0, 1, 2, 3, 4, 5, 6, 7] = List.range 8 from rfl]
  split
  next routed =>
    cases hfind : (List.range 8).find? fun c => !k.classDefined c with
    | none =>
      intro i e h
      obtain ⟨-, -, hi, undefined⟩ := only i e h
      have := List.find?_range_eq_none.1 hfind i (by omega)
      simp [undefined] at this
    | some c =>
      obtain ⟨undefined, hc, lower⟩ := List.find?_range_eq_some.1 hfind
      refine ⟨rfl, ⟨routed, by simpa [Nat.lt_succ_iff] using hc, by simpa using undefined⟩,
        fun j e h => ?_⟩
      obtain ⟨rfl, -, hj, undefined_j⟩ := only j e h
      obtain hlt | rfl | hlt := Nat.lt_trichotomy c j
      · exact .inl hlt
      · exact .inr ⟨rfl, le_rfl⟩
      · have := lower j hlt
        simp [undefined_j] at this
  next not_routed => exact fun i e h => not_routed (only i e h).2.1

/-- The order of the tables in the verdict. -/
def TableId.rank : TableId → Nat
  | .format => 0 | .range => 1 | .doctype => 2 | .settings => 3 | .cls => 4

/-- The first failing test of a slot, over the tables at or behind a rank. -/
def FirstFrom (n : Nat) (fails : TableId → Nat → ErrorKind → Prop) : Option CheckError → Prop
  | none => ∀ t, n ≤ t.rank → ∀ i e, ¬ fails t i e
  | some x => fails x.table x.index x.kind ∧ ∀ t, n ≤ t.rank → ∀ j e, fails t j e →
      x.table.rank < t.rank ∨ x.table = t ∧ (x.index < j ∨ x.index = j ∧ x.kind.code ≤ e.code)

theorem TableId.rank_injective {t t' : TableId} (h : t.rank = t'.rank) : t = t' := by
  revert h
  cases t <;> cases t' <;> decide

/-- A table ahead of the others. -/
theorem FirstFrom.table {fails : TableId → Nat → ErrorKind → Prop} {t : TableId} {o o' : Option CheckError}
    (here : FirstError t (fails t) o) (behind : FirstFrom (t.rank + 1) fails o') :
    FirstFrom t.rank fails (o.or o') := by
  have split : ∀ t' : TableId, t.rank ≤ t'.rank → t' = t ∨ t.rank + 1 ≤ t'.rank := fun t' h =>
    (Nat.eq_or_lt_of_le h).imp (fun e => (TableId.rank_injective e).symm) id
  cases o with
  | none =>
    cases o' with
    | none =>
      intro t' ht' i e h
      obtain rfl | hlt := split t' ht'
      · exact here i e h
      · exact behind t' hlt i e h
    | some x =>
      refine ⟨behind.1, fun t' ht' j e h => ?_⟩
      obtain rfl | hlt := split t' ht'
      · exact absurd h (here j e)
      · exact behind.2 t' hlt j e h
  | some x =>
    obtain ⟨rfl, fails_here, first⟩ := here
    refine ⟨fails_here, fun t' ht' j e h => ?_⟩
    obtain rfl | hlt := split t' ht'
    · exact .inr ⟨rfl, first j e h⟩
    · exact .inl hlt

theorem PlanSlot.checkError_first (k : PlanSlot) : FirstFrom 0 k.Fails k.checkError := by
  have past_all : FirstFrom 5 k.Fails none := fun t ht => by
    cases t <;> simp [TableId.rank] at ht
  have order : k.checkError = (tableError .format formatError [] k.formats).or
      ((tableError .range (rangeError k.classDefined) [] k.ranges).or
        ((tableError .doctype (doctypeError k.classDefined) [] k.doctypes).or
          (k.defaultError.or (k.serviceError.or none)))) := by
    simp [PlanSlot.checkError, PlanSlot.settingsError_eq, Option.or_assoc]
  rw [order]
  exact .table k.formats_first (.table k.ranges_first (.table k.doctypes_first
    (.table k.default_first (.table k.service_first past_all))))

theorem PlanSlot.checkError_eq_none_iff {k : PlanSlot} :
    k.checkError = none ↔ ∀ t i e, ¬ k.Fails t i e := by
  have first := k.checkError_first
  cases h : k.checkError with
  | none =>
    rw [h] at first
    exact iff_of_true rfl fun t => first t (Nat.zero_le _)
  | some x =>
    rw [h] at first
    exact iff_of_false nofun fun none_fails => none_fails _ _ _ first.1

theorem ErrorKind.code_injective {e e' : ErrorKind} (h : e.code = e'.code) : e = e' := by
  revert h
  cases e <;> cases e' <;> decide

/-- The verdict names the failing test that no other precedes. -/
theorem PlanSlot.checkError_eq_some {k : PlanSlot} {t : TableId} {i : Nat} {e : ErrorKind}
    (fails : k.Fails t i e) (least : ∀ t' j e', k.Fails t' j e' →
      t.rank < t'.rank ∨ t = t' ∧ (i < j ∨ i = j ∧ e.code ≤ e'.code)) :
    k.checkError = some ⟨t, i, e⟩ := by
  have first := k.checkError_first
  cases h : k.checkError with
  | none => exact absurd fails (PlanSlot.checkError_eq_none_iff.1 h t i e)
  | some x =>
    rw [h] at first
    obtain ⟨x_fails, x_least⟩ := first
    obtain ⟨table, index, kind⟩ := x
    have ahead := least _ _ _ x_fails
    have behind := x_least t (Nat.zero_le _) i e fails
    have same_table : table = t := by
      obtain lt | ⟨eq, -⟩ := ahead
      · obtain lt' | ⟨eq, -⟩ := behind
        · exact absurd lt (Nat.lt_asymm lt')
        · exact eq
      · exact eq.symm
    subst same_table
    have place : index = i ∧ kind.code = e.code := by
      simp only [Nat.lt_irrefl, false_or, true_and] at ahead behind
      omega
    rw [place.1, ErrorKind.code_injective place.2]

/-! ### A slot that passes -/

theorem ranges_ascending {rs : List RangeEntry} (upright : ∀ r ∈ rs, r.low ≤ r.high)
    (adjacent : ∀ j (h : j + 1 < rs.length), rs[j].high < rs[j + 1].low) :
    rs.Pairwise (fun a b => a.high < b.low) := by
  rw [List.pairwise_iff_getElem]
  intro i j hi hj hij
  induction j, hij using Nat.le_induction with
  | base => exact adjacent i hj
  | succ j hij ih =>
    have := ih (by omega)
    have := upright rs[j] (List.getElem_mem _)
    have := adjacent j hj
    omega

/-- Settles O31: the verdict is the first failing test, and none fails in a slot that passes. -/
theorem planCheckerVerdict : Obligations.PlanCheckerVerdict := by
  refine ⟨fun k c => ?_, fun k fails rank hrank hfails => ?_, fun k passes => ?_⟩
  · by_cases h : c < 64 <;> simp [PlanSlot.classDefined, PlanSlot.classEntry, h, ClassEntry.undefined]
  · obtain rfl : fails = k.Fails := by
      funext t i e
      exact propext ((hfails t i e).trans (by cases t <;> cases e <;> rfl))
    obtain rfl : rank = TableId.rank := by
      simp only [List.map_cons, List.map_nil, List.cons.injEq] at hrank
      obtain ⟨h0, h1, h2, h3, h4, -⟩ := hrank
      funext t
      cases t <;> assumption
    exact ⟨PlanSlot.checkError_eq_none_iff, fun t i e => PlanSlot.checkError_eq_some⟩
  · have holds := PlanSlot.checkError_eq_none_iff.1 passes
    have at_range : ∀ r ∈ k.ranges, r.low ≤ r.high ∧ k.classDefined r.cls = true := fun r hr => by
      obtain ⟨i, hi⟩ := List.mem_iff_getElem?.1 hr
      have upright : ¬ r.high < r.low := fun h => holds .range i .rangeInverted ⟨r, hi, h⟩
      have defined : ¬ k.classDefined r.cls = false := fun h =>
        holds .range i .classUndefined ⟨r, hi, h⟩
      exact ⟨by omega, by simpa using defined⟩
    refine ⟨ranges_ascending (fun r hr => (at_range r hr).1) fun j h => ?_, at_range, fun f hf => ?_, ?_,
      fun d hd => ?_, ?_, fun routed c hc => ?_⟩
    · refine Nat.lt_of_not_le fun hle => holds .range (j + 1) .rangeOrder
        ⟨_, List.getElem?_eq_getElem h, j, _, rfl, List.getElem?_eq_getElem (by omega), hle⟩
    · obtain ⟨i, hi⟩ := List.mem_iff_getElem?.1 hf
      have clear := fun h => holds .format i .formatField ⟨f, hi, h⟩
      refine ⟨Nat.le_of_not_lt fun h => clear (.inl h), fun hne =>
        ⟨Nat.le_of_not_lt fun h => clear (.inr ⟨hne, .inl h⟩), ?_⟩⟩
      by_contra apart
      exact clear (.inr ⟨hne, .inr (by omega)⟩)
    · rw [List.pairwise_iff_getElem]
      exact fun i j hi hj hij same => holds .doctype j .doctypeDuplicate
        ⟨_, List.getElem?_eq_getElem hj, i, _, hij, List.getElem?_eq_getElem hi, same⟩
    · obtain ⟨i, hi⟩ := List.mem_iff_getElem?.1 hd
      simpa using fun h => holds .doctype i .classUndefined ⟨d, hi, h⟩
    · simpa using fun h => holds .settings 0 .classUndefined ⟨rfl, h⟩
    · simpa using fun h => holds .cls c .serviceUndefined ⟨routed, hc, h⟩

end Sys2Proof.Machine
end

section
/-! SUPPORT. The capture check (R137, R141) and the re-routing from a gate that goes out (R148). A record
is re-routed by the gates above the failed one, whose spans no re-routing of the same event touches. -/

namespace Sys2Proof.Machine

/-! ### Gates in belt order -/

theorem mem_allGates (g : Gate) : g ∈ allGates := by
  revert g
  decide

theorem allGates_ascending : allGates.Pairwise (· < ·) := by decide

theorem Constants.mem_gatesInUse {c : Constants} {g : Gate} :
    g ∈ c.gatesInUse ↔ g.val + 1 ≤ c.gateCount := by
  simp [Constants.gatesInUse, mem_allGates, gateNum]

theorem Constants.gatesInUse_ascending (c : Constants) : c.gatesInUse.Pairwise (· < ·) :=
  allGates_ascending.filter _

/-! ### The capture check -/

theorem spanMeetsPassage_iff {f r a b : Position} :
    spanMeetsPassage f r a b = true ↔ fwd a f ≤ fwd a b ∨ fwd f a < fwd f r := by
  simp [spanMeetsPassage]

theorem Lane.captures_iff {L : Lane} {g : Gate} {c : Piece} :
    L.captures g c = true ↔
      (∃ q ∈ L.track, q.route = .armed ∧ q.gate = some g ∧
        ∃ f r, q.openAt = some f ∧ q.releaseAt = some r ∧ L.sweeps f r c g = true) ∨
      ∃ h ∈ L.holds[g.val], L.sweeps h.openAt h.releaseAt c g = true := by
  simp only [Lane.captures, Bool.or_eq_true, List.any_eq_true, Bool.and_eq_true, decide_eq_true_eq,
    and_assoc]
  refine or_congr (exists_congr fun q => and_congr_right fun _ => and_congr_right fun _ =>
    and_congr_right fun _ => ?_) Iff.rfl
  cases q.openAt <;> cases q.releaseAt <;> simp

/-- The first capturing gate of an ascending list is the lowest. -/
theorem Lane.capturingGate_eq_some {L : Lane} {gates : List Gate} {g : Gate} {c : Piece}
    (ascending : gates.Pairwise (· < ·)) (hg : g ∈ gates) (captures : L.captures g c = true)
    (lowest : ∀ g' ∈ gates, g' < g → L.captures g' c = false) : L.capturingGate gates c = some g :=
  find?_eq_some_of_lowest ascending hg captures lowest

theorem Lane.capturingGate_eq_none {L : Lane} {gates : List Gate} {c : Piece}
    (h : ∀ g ∈ gates, L.captures g c = false) : L.capturingGate gates c = none :=
  List.find?_eq_none.2 fun g hg => by simp [h g hg]

theorem Lane.captureAtTrail_of_routed {L : Lane} {c : Piece} (h : c.route ≠ .unrouted) :
    L.captureAtTrail c = c := if_neg h

theorem Lane.captureAtTrail_of_unrouted {L : Lane} {c : Piece} (h : c.route = .unrouted) :
    L.captureAtTrail c = match L.capturingGate L.constants.gatesInUse c with
      | some g => L.capture g c
      | none => c := if_pos h

/-- The gates a record is re-routed over: those in use above the failed gate. -/
def Lane.gatesAbove (L : Lane) (failed : Gate) : List Gate :=
  L.constants.gatesInUse.filter fun g => failed.val < g.val

theorem Lane.mem_gatesAbove {L : Lane} {failed g : Gate} :
    g ∈ L.gatesAbove failed ↔ g.val + 1 ≤ L.constants.gateCount ∧ failed < g := by
  simp [Lane.gatesAbove, Constants.mem_gatesInUse]

theorem Lane.gatesAbove_ascending (L : Lane) (failed : Gate) :
    (L.gatesAbove failed).Pairwise (· < ·) := L.constants.gatesInUse_ascending.filter _

theorem Lane.reroutePiece_of_gate {L : Lane} {failed g : Gate} {c : Piece}
    (h : L.capturingGate (L.gatesAbove failed) c = some g) :
    L.reroutePiece failed c = L.capture g c := by
  unfold Lane.gatesAbove at h
  simp only [Lane.reroutePiece, h]

theorem Lane.reroutePiece_of_none {L : Lane} {failed : Gate} {c : Piece}
    (h : L.capturingGate (L.gatesAbove failed) c = none) :
    L.reroutePiece failed c = L.sendToRunout .gateOut c := by
  unfold Lane.gatesAbove at h
  simp only [Lane.reroutePiece, h]

theorem Lane.capture_of_trail {L : Lane} {g : Gate} {c : Piece} {t : Position} (ht : c.trail = some t) :
    L.capture g c = { c with
      route := .captured
      gate := some g
      openAt := none
      releaseAt := none
      fireAt := none
      reason := some .captured
      window := some ⟨ahead c.lead L.constants.gates[g.val].distance,
        ahead (ahead t L.constants.gates[g.val].distance) L.constants.gates[g.val].confirm⟩ } := by
  simp [Lane.capture, Lane.gateWindow, Lane.trailOf, Constants.gate, ht]

/-! ### The re-routing of a gate's records -/

/-- The record is ARMED at the gate. -/
def Piece.armedAt (g : Gate) (p : Piece) : Bool := p.route = .armed && p.gate = some g

/-- The lane with another track. -/
def Lane.withTrack (L : Lane) (ps : List Piece) : Lane := { L with track := ps }

theorem Lane.reroutePiece_number (L : Lane) (g : Gate) (p : Piece) :
    (L.reroutePiece g p).number = p.number := by
  cases h : L.capturingGate (L.gatesAbove g) p with
  | some g' => rw [Lane.reroutePiece_of_gate h]; rfl
  | none => rw [Lane.reroutePiece_of_none h]; rfl

theorem Lane.reroutePiece_not_armedAt (L : Lane) (g : Gate) (p : Piece) (g' : Gate) :
    (L.reroutePiece g p).armedAt g' = false := by
  cases h : L.capturingGate (L.gatesAbove g) p with
  | some g' => rw [Lane.reroutePiece_of_gate h]; rfl
  | none => rw [Lane.reroutePiece_of_none h]; rfl

/-- A re-routing reads a record's lead and trail alone, which it keeps. -/
theorem Lane.reroutePiece_idem (L : Lane) (g : Gate) (p : Piece) :
    L.reroutePiece g (L.reroutePiece g p) = L.reroutePiece g p := by
  have same : ∀ q : Piece, q.lead = p.lead → q.trail = p.trail →
      L.capturingGate (L.gatesAbove g) q = L.capturingGate (L.gatesAbove g) p := by
    intro q hlead htrail
    simp [Lane.capturingGate, Lane.captures, Lane.sweeps, Lane.trailOf, hlead, htrail]
  cases h : L.capturingGate (L.gatesAbove g) p with
  | some g' =>
    rw [Lane.reroutePiece_of_gate h,
      Lane.reroutePiece_of_gate (c := L.capture g' p) ((same _ rfl rfl).trans h)]
    rfl
  | none =>
    rw [Lane.reroutePiece_of_none h,
      Lane.reroutePiece_of_none (c := L.sendToRunout .gateOut p) ((same _ rfl rfl).trans h)]
    rfl

theorem Lane.reroutePiece_withTrack {L : Lane} {ps : List Piece} {g : Gate}
    (same : ∀ g' c, g < g' → (L.withTrack ps).captures g' c = L.captures g' c) :
    (L.withTrack ps).reroutePiece g = L.reroutePiece g := by
  funext c
  have gate : (L.withTrack ps).capturingGate (L.gatesAbove g) c = L.capturingGate (L.gatesAbove g) c :=
    List.find?_congr fun g' hg' => same g' c (Lane.mem_gatesAbove.1 hg').2
  cases h : L.capturingGate (L.gatesAbove g) c with
  | some g' =>
    rw [Lane.reroutePiece_of_gate h, Lane.reroutePiece_of_gate (gate.trans h)]
    rfl
  | none =>
    rw [Lane.reroutePiece_of_none h, Lane.reroutePiece_of_none (gate.trans h)]
    rfl

/-- What the record of a track becomes once those of some numbers have been re-routed from gate g. -/
def Lane.rerouted (L : Lane) (g : Gate) (ns : List Nat) (q : Piece) : Piece :=
  if q.number ∈ ns ∧ q.armedAt g = true then L.reroutePiece g q else q

theorem Lane.rerouted_number (L : Lane) (g : Gate) (ns : List Nat) (q : Piece) :
    (L.rerouted g ns q).number = q.number := by
  unfold Lane.rerouted
  split
  · exact L.reroutePiece_number g q
  · rfl

theorem Lane.rerouted_of_armedAt {L : Lane} {g g' : Gate} {ns : List Nat} {q : Piece}
    (h : (L.rerouted g ns q).armedAt g' = true) : L.rerouted g ns q = q := by
  unfold Lane.rerouted at h ⊢
  split at h
  · rw [L.reroutePiece_not_armedAt] at h
    exact absurd h Bool.false_ne_true
  · next hq => exact if_neg hq

theorem Lane.rerouted_of_armedAt_other {L : Lane} {g g' : Gate} {ns : List Nat} {q : Piece}
    (h : q.armedAt g' = true) (hne : g ≠ g') : L.rerouted g ns q = q :=
  if_neg fun hq => hne <| by
    simp only [Piece.armedAt, Bool.and_eq_true, decide_eq_true_eq] at h hq
    exact Option.some.inj (hq.2.2.symm.trans h.2)

/-- At another gate the re-routed track captures what the track captured. -/
theorem Lane.captures_rerouted (L : Lane) {g g' : Gate} (hne : g ≠ g') (ns : List Nat) (c : Piece) :
    (L.withTrack (L.track.map (L.rerouted g ns))).captures g' c = L.captures g' c := by
  rw [Bool.eq_iff_iff, Lane.captures_iff, Lane.captures_iff]
  refine or_congr ⟨?_, ?_⟩ Iff.rfl
  · rintro ⟨_, hmem, armed, gate, span⟩
    obtain ⟨q, hq, rfl⟩ := List.mem_map.1 hmem
    have keep : L.rerouted g ns q = q :=
      Lane.rerouted_of_armedAt (g' := g') (by simp [Piece.armedAt, armed, gate])
    rw [keep] at armed gate span
    exact ⟨q, hq, armed, gate, span⟩
  · rintro ⟨q, hq, armed, gate, span⟩
    have keep : L.rerouted g ns q = q :=
      Lane.rerouted_of_armedAt_other (by simp [Piece.armedAt, armed, gate]) hne
    exact ⟨q, List.mem_map.2 ⟨q, hq, keep⟩, armed, gate, span⟩

/-- The re-routing of one more record, where its number tells it apart. -/
theorem Lane.rerouted_step (L : Lane) {g : Gate} (ns : List Nat) {p : Piece}
    (armed : p.armedAt g = true) (own : ∀ q ∈ L.track, q.number = p.number → q = p) :
    (L.withTrack (L.track.map (L.rerouted g ns))).modPiece p.number
        ((L.withTrack (L.track.map (L.rerouted g ns))).reroutePiece g) =
      L.withTrack (L.track.map (L.rerouted g (ns ++ [p.number]))) := by
  rw [Lane.reroutePiece_withTrack fun g' c hlt => L.captures_rerouted hlt.ne ns c]
  refine congrArg L.withTrack ?_
  rw [show (L.withTrack (L.track.map (L.rerouted g ns))).track = L.track.map (L.rerouted g ns) from rfl,
    List.map_map]
  refine List.map_congr_left fun q hq => ?_
  simp only [Function.comp, Lane.rerouted_number]
  split
  next same =>
    obtain rfl := own q hq same
    have after : L.rerouted g (ns ++ [q.number]) q = L.reroutePiece g q := if_pos ⟨by simp, armed⟩
    rw [after]
    unfold Lane.rerouted
    split
    · exact L.reroutePiece_idem g q
    · rfl
  next other => simp [Lane.rerouted, other]

theorem Lane.rerouteAll_foldl (L : Lane) {g : Gate} (ps : List Piece) (ns : List Nat)
    (armed : ∀ p ∈ ps, p.armedAt g = true)
    (own : ∀ p ∈ ps, ∀ q ∈ L.track, q.number = p.number → q = p) :
    ps.foldl (fun L' p => L'.modPiece p.number (L'.reroutePiece g))
        (L.withTrack (L.track.map (L.rerouted g ns))) =
      L.withTrack (L.track.map (L.rerouted g (ns ++ ps.map Piece.number))) := by
  induction ps generalizing ns with
  | nil => simp
  | cons p ps ih =>
    rw [List.foldl_cons, L.rerouted_step ns (armed p (by simp)) (own p (by simp)),
      ih _ (fun q hq => armed q (by simp [hq])) (fun q hq => own q (by simp [hq]))]
    simp

theorem Lane.rerouteAll_track {L : Lane} {g : Gate}
    (unique : ∀ p ∈ L.track, ∀ q ∈ L.track, p.number = q.number → p = q) :
    (L.rerouteAll g).track =
      L.track.map fun p => if p.armedAt g = true then L.reroutePiece g p else p := by
  have start : L = L.withTrack (L.track.map (L.rerouted g [])) := by
    have : L.rerouted g [] = id := funext fun q => by simp [Lane.rerouted]
    rw [this, List.map_id]
    rfl
  have all : L.rerouteAll g = L.withTrack (L.track.map (L.rerouted g
      ([] ++ (L.track.filter (Piece.armedAt g)).map Piece.number))) := by
    rw [← L.rerouteAll_foldl (L.track.filter (Piece.armedAt g)) [] (fun p hp => (List.mem_filter.1 hp).2)
      fun p hp q hq same => unique q hq p (List.mem_filter.1 hp).1 same, ← start]
    rfl
  rw [all]
  refine List.map_congr_left fun q hq => ?_
  by_cases armed : q.armedAt g = true
  · have listed : q.number ∈ [] ++ (L.track.filter (Piece.armedAt g)).map Piece.number :=
      List.mem_map.2 ⟨q, List.mem_filter.2 ⟨hq, armed⟩, rfl⟩
    rw [if_pos armed]
    exact if_pos ⟨listed, armed⟩
  · rw [if_neg armed]
    exact if_neg fun h => armed h.2

/-- A re-routing moves the track alone. -/
theorem Lane.foldl_modPiece_frame (g : Gate) (ps : List Piece) (L : Lane) (tr : List Piece) :
    (ps.foldl (fun L' p => L'.modPiece p.number (L'.reroutePiece g)) L).withTrack tr =
      L.withTrack tr := by
  induction ps generalizing L with
  | nil => rfl
  | cons p ps ih => exact ih _

/-- Settles O18: the capture check finds the lowest capturing gate, and a gate that goes out re-routes
its ARMED records one by one, each as if it were the only one. -/
theorem captureAndRerouting : Obligations.CaptureAndRerouting := by
  refine ⟨fun L c t meets takes captured ht hmeets htakes hcaptured => ?_, fun L g =>
    ⟨rfl, L.foldl_modPiece_frame g _ L.track |>.trans rfl, fun unique => ?_⟩⟩
  · have sweeps : ∀ (g : Gate) (f r : Position), L.sweeps f r c g = true ↔ meets g f r := fun g f r => by
      rw [hmeets g f r _ _ rfl rfl]
      simp [Lane.sweeps, spanMeetsPassage_iff, Lane.trailOf, Constants.gate, ht]
    have captures : ∀ g : Gate, L.captures g c = true ↔ takes g := fun g => by
      simp only [Lane.captures_iff, sweeps, htakes g]
    have spares : ∀ g : Gate, L.captures g c = false ↔ ¬ takes g := fun g => by
      rw [← captures, Bool.not_eq_true]
    have capture : ∀ g : Gate, L.capture g c = captured g := fun g =>
      (Lane.capture_of_trail ht).trans (hcaptured g).symm
    refine ⟨Lane.captureAtTrail_of_routed, fun unrouted => ⟨fun g hg took lowest => ?_, fun clear => ?_⟩,
      fun failed => ⟨fun g above hg took lowest => ?_, fun clear => ?_⟩⟩
    · rw [Lane.captureAtTrail_of_unrouted unrouted, Lane.capturingGate_eq_some
        L.constants.gatesInUse_ascending (Constants.mem_gatesInUse.2 hg) ((captures g).2 took)
        fun g' _ hlt => (spares g').2 (lowest g' hlt)]
      exact capture g
    · rw [Lane.captureAtTrail_of_unrouted unrouted, Lane.capturingGate_eq_none fun g hg =>
        (spares g).2 (clear g (Constants.mem_gatesInUse.1 hg))]
    · rw [Lane.reroutePiece_of_gate (Lane.capturingGate_eq_some (L.gatesAbove_ascending failed)
        (Lane.mem_gatesAbove.2 ⟨hg, above⟩) ((captures g).2 took) fun g' hg' hlt =>
          (spares g').2 (lowest g' (Lane.mem_gatesAbove.1 hg').2 hlt))]
      exact capture g
    · rw [Lane.reroutePiece_of_none (Lane.capturingGate_eq_none fun g hg =>
        (spares g).2 (clear g (Lane.mem_gatesAbove.1 hg).2 (Lane.mem_gatesAbove.1 hg).1))]
      simp [Lane.sendToRunout, Lane.runoutWindowOf, Lane.trailOf, ht]
  · rw [Lane.rerouteAll_track unique]
    simp only [Piece.armedAt, Bool.and_eq_true, decide_eq_true_eq]

end Sys2Proof.Machine
end

section
/-! SUPPORT. The parameters of a request frame (R194, R195): the codes of the table, the lengths they
require, and each field and list read back at its place. -/

namespace Sys2Proof.Machine

/-! ### Codes and lengths -/

theorem mem_requestCodes_of_paramShape {code : Nat} (h : paramShape code ≠ none) :
    code ∈ WellFormed.requestCodes := by
  unfold paramShape at h
  split at h <;> simp_all [WellFormed.requestCodes]

theorem parseRequest_of_unknown {code : Nat} {ps : Bytes} (h : code ∉ WellFormed.requestCodes) :
    parseRequest code ps = .unknown code := by
  have : paramShape code = none := not_not.1 fun hs => h (mem_requestCodes_of_paramShape hs)
  simp only [parseRequest, this]

theorem parseRequest_of_fits {code : Nat} {shape : Nat × Option Nat} {ps : Bytes}
    (hs : paramShape code = some shape) (hl : lengthFits shape ps = true) :
    parseRequest code ps = requestOf code ps := by
  simp only [parseRequest, hs, hl, if_true]

theorem parseRequest_of_misfit {code : Nat} {shape : Nat × Option Nat} {ps : Bytes}
    (hs : paramShape code = some shape) (hl : lengthFits shape ps = false) :
    parseRequest code ps = .badLength code := by
  simp only [parseRequest, hs, hl, Bool.false_eq_true, if_false]

/-- A list fits when as many bytes follow the count byte as its items take. -/
theorem lengthFits_list_iff {fixed width : Nat} {before items : Bytes} {count : Byte}
    (hb : before.length = fixed) :
    lengthFits (fixed, some width) (before ++ count :: items) = true ↔
      items.length = width * count.toNat := by
  subst hb
  have : fieldAt (before ++ count :: items) before.length 1 = count.toNat := by
    simp [fieldAt, num]
  simp only [lengthFits, this, List.length_append, List.length_cons, Bool.and_eq_true,
    decide_eq_true_eq]
  omega

/-! ### Fields behind other fields -/

theorem fieldAt_append_of_le {before rest : Bytes} {k n : Nat} (h : before.length ≤ k) :
    fieldAt (before ++ rest) k n = fieldAt rest (k - before.length) n := by
  unfold fieldAt
  simp [List.drop_append, List.drop_eq_nil_of_le h]

theorem fieldAt_be_self {n v : Nat} (h : v < 256 ^ n) : fieldAt (be n v) 0 n = v := by
  simpa using fieldAt_zero n v [] h

/-! ### List items -/

/-- The bytes of an item, by the layouts of R198. -/
def constantBytes (i : ConstantItem) : Bytes := u8 i.code ++ u8 i.index ++ u24 i.value
def speedBytes (i : SpeedItem) : Bytes := u8 i.code ++ u16 i.value
def formatBytes (i : FormatItem) : Bytes :=
  u8 i.number ++ u8 i.pfxCount ++ [i.pfx1, i.pfx2, i.pfx3, i.pfx4] ++ u8 i.codeLength ++
    u8 i.accountStart ++ u8 i.accountLength ++ u8 i.doctypeStart ++ u8 i.doctypeLength ++ u8 i.scheme
def rangeBytes (i : RangeItem) : Bytes := u40 i.low ++ u40 i.high ++ u8 i.cls
def classBytes (i : ClassItem) : Bytes :=
  u8 i.cls ++ u8 i.defined ++ u8 i.primary0 ++ u8 i.overflow0 ++ u8 i.primary1 ++ u8 i.overflow1
def doctypeBytes (i : DoctypeItem) : Bytes := u16 i.doctype ++ u8 i.cls ++ u8 i.strength
def settingBytes (i : SettingItem) : Bytes := u8 i.code ++ u16 i.value

theorem constantItem_constantBytes {i : ConstantItem} (h : WellFormed.constantItem i = true) :
    constantItem (constantBytes i) = i := by
  simp [WellFormed.constantItem, WellFormed.byte, WellFormed.three] at h
  simp [constantItem, constantBytes, fieldAt_append_of_le, fieldAt_zero, fieldAt_be_self, u8, u24, h]

theorem speedItem_speedBytes {i : SpeedItem} (h : WellFormed.speedItem i = true) : speedItem (speedBytes i) = i := by
  simp [WellFormed.speedItem, WellFormed.byte, WellFormed.half] at h
  simp [speedItem, speedBytes, fieldAt_append_of_le, fieldAt_zero, fieldAt_be_self, u8, u16, h]

theorem formatItem_formatBytes {i : FormatItem} (h : WellFormed.formatItem i = true) :
    formatItem (formatBytes i) = i := by
  simp [WellFormed.formatItem, WellFormed.byte] at h
  have chars : ∀ {k : Nat} {rest : Bytes}, 4 ≤ k →
      fieldAt (i.pfx1 :: i.pfx2 :: i.pfx3 :: i.pfx4 :: rest) k 1 = fieldAt rest (k - 4) 1 := fun hk =>
    fieldAt_append_of_le (before := [i.pfx1, i.pfx2, i.pfx3, i.pfx4]) hk
  simp [formatItem, formatBytes, fieldAt_append_of_le, fieldAt_zero, fieldAt_be_self, u8, h, chars]

theorem rangeItem_rangeBytes {i : RangeItem} (h : WellFormed.rangeItem i = true) : rangeItem (rangeBytes i) = i := by
  simp [WellFormed.rangeItem, WellFormed.byte, WellFormed.five] at h
  simp [rangeItem, rangeBytes, fieldAt_append_of_le, fieldAt_zero, fieldAt_be_self, u8, u40, h]

theorem classItem_classBytes {i : ClassItem} (h : WellFormed.classItem i = true) : classItem (classBytes i) = i := by
  simp [WellFormed.classItem, WellFormed.byte] at h
  simp [classItem, classBytes, fieldAt_append_of_le, fieldAt_zero, fieldAt_be_self, u8, h]

theorem doctypeItem_doctypeBytes {i : DoctypeItem} (h : WellFormed.doctypeItem i = true) :
    doctypeItem (doctypeBytes i) = i := by
  simp [WellFormed.doctypeItem, WellFormed.byte, WellFormed.half] at h
  simp [doctypeItem, doctypeBytes, fieldAt_append_of_le, fieldAt_zero, fieldAt_be_self, u8, u16, h]

theorem settingItem_settingBytes {i : SettingItem} (h : WellFormed.settingItem i = true) :
    settingItem (settingBytes i) = i := by
  simp [WellFormed.settingItem, WellFormed.byte, WellFormed.half] at h
  simp [settingItem, settingBytes, fieldAt_append_of_le, fieldAt_zero, fieldAt_be_self, u8, u16, h]

/-! ### Requests with a list -/

/-- A request whose fixed field is one byte, read back with its items. -/
theorem parseRequest_items {α : Type} {code width x : Nat} {enc : α → Bytes} {dec : Bytes → α}
    {make : Nat → List α → Request} {is : List α} (hs : paramShape code = some (1, some width))
    (hmake : ∀ ps, requestOf code ps = make (fieldAt ps 0 1) ((listItems ps 1 width).map dec))
    (hx : x < 256) (hn : is.length < 256) (hl : ∀ i, (enc i).length = width)
    (hd : ∀ i ∈ is, dec (enc i) = i) :
    parseRequest code (u8 x ++ u8 is.length ++ is.flatMap enc) = make x is := by
  obtain ⟨items, fits⟩ := listItems_encoded (u8 x) 1 width enc dec is (by simp) hn (fun i _ => hl i) hd
  rw [List.append_assoc, parseRequest_of_fits hs fits, hmake, items]
  exact congrArg (make · is) (fieldAt_zero 1 x _ (by simpa using hx))

/-- A request with a start index before its items, FFFFh for none. -/
theorem parseRequest_startItems {α : Type} {code width x h : Nat} {enc : α → Bytes} {dec : Bytes → α}
    {make : Nat → Option Nat → List α → Request} {is : List α}
    (hs : paramShape code = some (3, some width))
    (hmake : ∀ ps, requestOf code ps =
      make (fieldAt ps 0 1) (optionalHalf (fieldAt ps 1 2)) ((listItems ps 3 width).map dec))
    (hx : x < 256) (hh : h < 65536) (hn : is.length < 256) (hl : ∀ i, (enc i).length = width)
    (hd : ∀ i ∈ is, dec (enc i) = i) :
    parseRequest code (u8 x ++ u16 h ++ u8 is.length ++ is.flatMap enc) =
      make x (if h = 65535 then none else some h) is := by
  obtain ⟨items, fits⟩ :=
    listItems_encoded (u8 x ++ u16 h) 3 width enc dec is (by simp) hn (fun i _ => hl i) hd
  rw [List.append_assoc (u8 x ++ u16 h), parseRequest_of_fits hs fits, hmake, items]
  simp [fieldAt_append_of_le, fieldAt_zero, u8, u16, hx, hh, optionalHalf]

/-- Settles O8: a request's length is that of its code, and its fields and items read back. -/
theorem requestParametersParsed : Obligations.RequestParametersParsed := by
  refine ⟨fun tag code s => ⟨rfl, rfl⟩, fun code ps => parseRequest_of_unknown,
    fun code fixed ps hcode hlen => ?_, fun code fixed width ps hcode hlen => ?_,
    ⟨rfl, rfl, rfl, rfl, rfl, rfl⟩, fun x y z h h' b b' a hx hy hz hh hh' hb hb' ha => ?_,
    fun x h hx hh => ⟨?_, ?_, ?_, ?_, ?_, ?_, ?_⟩⟩
  · have shape : ∀ c ∈ [(0x01, 0), (0x02, 1), (0x03, 0), (0x10, 1), (0x11, 1), (0x12, 1), (0x13, 1),
        (0x14, 1), (0x16, 1), (0x17, 1), (0x20, 3), (0x30, 1), (0x36, 1), (0x37, 1), (0x38, 0),
        (0x39, 4), (0x40, 6), (0x41, 5), (0x42, 0), (0x43, 2), (0x48, 7), (0x49, 0), (0x50, 8),
        (0x51, 3), (0x52, 0), (0x60, 1), (0x68, 6), (0x69, 2), (0x6A, 1), (0x6B, 2), (0x71, 1),
        (0x72, 1)], paramShape c.1 = some (c.2, none) := by decide
    exact parseRequest_of_misfit (shape _ hcode) (by simpa [lengthFits] using hlen)
  · have shape : ∀ c ∈ [(0x15, 1, 5), (0x31, 3, 12), (0x32, 3, 11), (0x33, 1, 6), (0x34, 3, 4),
        (0x35, 1, 3), (0x70, 1, 3)], paramShape c.1 = some (c.2.1, some c.2.2) := by decide
    refine parseRequest_of_misfit (shape _ hcode) ?_
    obtain short | ⟨before, count, items, rfl, hb, hi⟩ := hlen
    · simp [lengthFits, Nat.not_lt.2 short]
    · exact Bool.eq_false_iff.2 (mt (lengthFits_list_iff hb).1 hi)
  · refine ⟨?_, ?_, ?_, ?_, ?_, ?_, ?_, ?_, ?_, ?_, ?_, ?_, ?_, ?_, ?_, ?_, ?_, ?_, ?_, ?_, ?_, ?_, ?_,
        ?_, ?_, ?_⟩ <;> rw [parseRequest_of_fits rfl (by simp [lengthFits])] <;>
      simp [requestOf, fieldAt_append_of_le, fieldAt_zero, fieldAt_be_self, u8, u16, u24, u40,
        optionalHalf, *]
  · exact fun is hn wf => parseRequest_items (enc := constantBytes) rfl (fun _ => rfl) hx hn
      (fun _ => by simp [constantBytes]) fun i hi => constantItem_constantBytes (wf i hi)
  · exact fun is hn wf => parseRequest_startItems (enc := formatBytes) rfl (fun _ => rfl) hx hh hn
      (fun _ => by simp [formatBytes]) fun i hi => formatItem_formatBytes (wf i hi)
  · exact fun is hn wf => parseRequest_startItems (enc := rangeBytes) rfl (fun _ => rfl) hx hh hn
      (fun _ => by simp [rangeBytes]) fun i hi => rangeItem_rangeBytes (wf i hi)
  · exact fun is hn wf => parseRequest_items (enc := classBytes) rfl (fun _ => rfl) hx hn
      (fun _ => by simp [classBytes]) fun i hi => classItem_classBytes (wf i hi)
  · exact fun is hn wf => parseRequest_startItems (enc := doctypeBytes) rfl (fun _ => rfl) hx hh hn
      (fun _ => by simp [doctypeBytes]) fun i hi => doctypeItem_doctypeBytes (wf i hi)
  · exact fun is hn wf => parseRequest_items (enc := settingBytes) rfl (fun _ => rfl) hx hn
      (fun _ => by simp [settingBytes]) fun i hi => settingItem_settingBytes (wf i hi)
  · exact fun is hn wf => parseRequest_items (enc := speedBytes) rfl (fun _ => rfl) hx hn
      (fun _ => by simp [speedBytes]) fun i hi => speedItem_speedBytes (wf i hi)

end Sys2Proof.Machine
end

section
/-! SUPPORT. The link's queues (R192 to R194, R199, R200): the frame the idle transmitter takes, what
joins a queue and what is dropped, and the request that is taken when a place is freed. -/

namespace Sys2Proof.Machine

/-! ### A step -/

/-- Settles O1: the two cases of the queue of commands. -/
theorem stepTakesFrontCommand : Obligations.StepTakesFrontCommand := by
  refine ⟨fun c rest s h => ?_, fun s h => ?_⟩
  · simp only [step, h]
  · simp only [step, h]

/-! ### The transmitter -/

theorem Link.transmit_of_busy {k : Link} (h : k.tx.isSome = true) : k.transmit = k := by
  obtain ⟨f, hf⟩ := Option.isSome_iff_exists.1 h
  simp only [Link.transmit, hf]

theorem Link.transmit_of_response {k : Link} {r : Response} {rs : List Response} (idle : k.tx = none)
    (h : k.responses = r :: rs) :
    k.transmit = { k with tx := some (frame r.content), responses := rs } := by
  simp only [Link.transmit, idle, h]

theorem Link.transmit_of_notice {k : Link} {n : Notice} {ns : List Notice} (idle : k.tx = none)
    (hr : k.responses = []) (h : k.notices = n :: ns) :
    k.transmit =
      { k with tx := some (frame (n.content k.lostNotices)), notices := ns, lostNotices := 0 } := by
  simp only [Link.transmit, idle, hr, h]

theorem Link.transmit_of_disposition {k : Link} {d : Disposition} {ds : List Disposition}
    (idle : k.tx = none) (hr : k.responses = []) (hn : k.notices = []) (h : k.dispositions = d :: ds) :
    k.transmit = { k with tx := some (frame d.content), dispositions := ds } := by
  simp only [Link.transmit, idle, hr, hn, h]

theorem Link.transmit_of_empty {k : Link} (idle : k.tx = none) (hr : k.responses = [])
    (hn : k.notices = []) (hd : k.dispositions = []) : k.transmit = k := by
  simp only [Link.transmit, idle, hr, hn, hd]

/-! ### Notices and dispositions -/

theorem Link.raise_of_room {k : Link} {n : Notice} (h : k.notices.length < 16) :
    k.raise n = { k with notices := k.notices ++ [n] } := if_pos h

theorem Link.raise_of_full {k : Link} {n : Notice} (h : 16 ≤ k.notices.length) :
    k.raise n = { k with
      lostNotices := min 255 (k.lostNotices + 1)
      counters := { k.counters with noticesLost := k.counters.noticesLost + 1 } } :=
  if_neg (Nat.not_lt.2 h)

theorem Link.offer_of_room {k : Link} {d : Disposition} (h : k.dispositions.length < 64) :
    k.offer d = { k with dispositions := k.dispositions ++ [d] } := if_pos h

theorem Link.offer_of_full {k : Link} {d : Disposition} (h : 64 ≤ k.dispositions.length) :
    k.offer d = { k with counters := { k.counters with
      dispositionDiscards := k.counters.dispositionDiscards + 1 } } := if_neg (Nat.not_lt.2 h)

/-! ### Requests -/

theorem Link.freePlaces_eq_zero_iff {k : Link} :
    k.freePlaces = 0 ↔ 16 ≤ k.responses.length + k.reserved := by
  simp only [Link.freePlaces, Config.responsePlaces]
  omega

theorem State.takeRequests_of_no_place {s : State} (h : s.link.freePlaces = 0) (n : Nat) :
    s.takeRequests n = s := by
  cases n with
  | zero => rfl
  | succ n =>
    unfold State.takeRequests
    cases s.link.buffer <;> simp [h]

/-- The last request of the buffer, with a place for its response, is taken and no other is. -/
theorem State.takeRequests_of_last {s : State} {r : BufferedRequest}
    (hb : s.link.buffer = [r]) (hp : s.link.freePlaces ≠ 0) :
    s.takeRequests 1 = s.takeRequest r [] := by
  simp only [State.takeRequests, hb, if_neg hp]

theorem State.submit_of_full {s : State} (h : 4 ≤ s.link.buffer.length) (tag : Nat) (r : Request) :
    s.submit tag r = s.countDevice fun c => { c with bufferOverflows := c.bufferOverflows + 1 } :=
  if_neg (Nat.not_lt.2 h)

theorem State.submit_of_no_place {s : State} (h : s.link.buffer.length < 4)
    (hp : 16 ≤ s.link.responses.length + s.link.reserved) (tag : Nat) (r : Request) :
    s.submit tag r = { s with link := { s.link with buffer := s.link.buffer ++ [⟨tag, r⟩] } } := by
  rw [State.submit, if_pos (show _ < Config.bufferCapacity from h)]
  have stuck : ({ s with link := { s.link with
      buffer := s.link.buffer ++ [(⟨tag, r⟩ : BufferedRequest)] } } : State).link.freePlaces = 0 :=
    Link.freePlaces_eq_zero_iff.2 hp
  exact State.takeRequests_of_no_place stuck _

theorem State.with_buffer_nil {s : State} (h : s.link.buffer = []) :
    ({ s with link := { s.link with buffer := [] } } : State) = s := by
  conv_rhs => rw [show s = { s with link := { s.link with buffer := s.link.buffer } } from rfl, h]

theorem State.submit_of_alone {s : State} (h : s.link.buffer = [])
    (hp : s.link.responses.length + s.link.reserved < 16) (tag : Nat) (r : Request) :
    s.submit tag r = (s.perform tag r).transmit := by
  have place : ({ s with link := { s.link with
      buffer := [(⟨tag, r⟩ : BufferedRequest)] } } : State).link.freePlaces ≠ 0 :=
    fun h0 => absurd (Link.freePlaces_eq_zero_iff.1 h0) (Nat.not_le.2 hp)
  rw [State.submit, h]
  refine (State.takeRequests_of_last rfl place).trans ?_
  exact congrArg (fun u : State => (u.perform tag r).transmit) (State.with_buffer_nil h)

/-- A response whose transmission begins frees its place for the request that waits. -/
theorem State.settle_takes_waiting {s : State} {x : Response} {xs : List Response} {r : BufferedRequest}
    (idle : s.link.tx = none) (hb : s.link.buffer = [r]) (hx : s.link.responses = x :: xs)
    (full : s.link.responses.length + s.link.reserved = 16) :
    s.settle = (({ s with link := { s.link with
      tx := some (frame x.content), responses := xs, buffer := [] } } : State).perform r.tag
        r.request).transmit := by
  have sent : s.transmit = { s with link := { s.link with
      tx := some (frame x.content), responses := xs } } := by
    simp only [State.transmit, Link.transmit_of_response idle hx]
  have place : ({ s with link := { s.link with
      tx := some (frame x.content), responses := xs } } : State).link.freePlaces ≠ 0 := fun h0 => by
    have waiting : 16 ≤ xs.length + s.link.reserved := Link.freePlaces_eq_zero_iff.1 h0
    rw [hx, List.length_cons] at full
    omega
  rw [State.settle, sent, hb]
  exact State.takeRequests_of_last hb place

/-- Settles O2: each queue's rule, by the lemma of its operation. -/
theorem queuesFillAndDrain : Obligations.QueuesFillAndDrain := by
  refine ⟨fun tag code st results s => rfl, fun s hb => ?_, fun n s => ⟨fun h => ?_, fun h => ?_⟩,
    fun d s => ⟨fun h => ?_, fun h => ?_⟩, fun tag r s => ⟨fun h => State.submit_of_full h tag r,
      fun h hp => State.submit_of_no_place h hp tag r, fun h hp => State.submit_of_alone h hp tag r,
      fun x xs idle hb hx full => State.settle_takes_waiting idle hb hx full⟩⟩
  · rw [State.settle_of_buffer_nil hb]
    refine ⟨rfl, fun busy => ?_, fun idle => ⟨fun r rs hr => ?_, fun hr => ⟨fun n ns hn => ?_,
      fun hn => ⟨fun d ds hd => ?_, fun hd => ?_⟩⟩⟩⟩
    · simp only [State.transmit, Link.transmit_of_busy busy]
    · simp only [State.transmit, Link.transmit_of_response idle hr]
    · simp only [State.transmit, Link.transmit_of_notice idle hr hn]
    · simp only [State.transmit, Link.transmit_of_disposition idle hr hn hd]
    · simp only [State.transmit, Link.transmit_of_empty idle hr hn hd]
  · simp only [State.raise, Link.raise_of_room h]
  · simp only [State.raise, Link.raise_of_full h]
  · simp only [State.offer, Link.offer_of_room h]
  · simp only [State.offer, Link.offer_of_full h]

end Sys2Proof.Machine
end

section
/-! SUPPORT. The frames the part sends (R188, R197): a number of all ones, the CRC a byte at a time, and
the flags byte of a disposition bit by bit. -/

namespace Sys2Proof.Machine

/-- The low bytes of a number that ends in ones are all ones. -/
theorem be_ones (n k : Nat) : be n (256 ^ n * k + (256 ^ n - 1)) = List.replicate n 0xFF#8 := by
  induction n generalizing k with
  | zero => rfl
  | succ n ih =>
    have pos : 0 < 256 ^ n := Nat.pow_pos (by decide)
    have regroup : 256 ^ (n + 1) * k + (256 ^ (n + 1) - 1) =
        256 ^ n * (256 * k + 255) + (256 ^ n - 1) := by
      rw [Nat.mul_add, pow_succ, Nat.mul_assoc]
      omega
    have head : (256 ^ n * (256 * k + 255) + (256 ^ n - 1)) / 256 ^ n = 256 * k + 255 := by
      rw [Nat.mul_add_div pos, Nat.div_eq_of_lt (by omega), Nat.add_zero]
    have byte : BitVec.ofNat 8 (256 * k + 255) = 0xFF#8 := by
      apply BitVec.eq_of_toNat_eq
      simp only [BitVec.toNat_ofNat]
      omega
    rw [regroup, be, ih, head, byte, List.replicate_succ]

theorem optField_none (n : Nat) : optField n none = List.replicate n 0xFF#8 := by
  simpa [optField] using be_ones n 0

theorem crc16_concat (bs : Bytes) (b : Byte) : crc16 (bs ++ [b]) = crcByte (crc16 bs) b := by
  simp [crc16]

/-- Eight flags in one byte, the first in bit 0. -/
theorem flagsByte_bits : ∀ b0 b1 b2 b3 b4 b5 b6 b7 : Bool,
    b0.toNat + 2 * b1.toNat + 4 * b2.toNat + 8 * b3.toNat + 16 * b4.toNat + 32 * b5.toNat +
        64 * b6.toNat + 128 * b7.toNat < 256 ∧
      (List.range 8).map (Nat.testBit (b0.toNat + 2 * b1.toNat + 4 * b2.toNat + 8 * b3.toNat +
        16 * b4.toNat + 32 * b5.toNat + 64 * b6.toNat + 128 * b7.toNat)) =
          [b0, b1, b2, b3, b4, b5, b6, b7] := by
  decide

theorem ReadOutcome.unresolved_items {o : ReadOutcome}
    (h : o = .noread ∨ o = .multi ∨ o = .checkfail ∨ o = .noformat) :
    o.codeString = none ∧ o.formatNumber = none := by
  obtain rfl | rfl | rfl | rfl := h <;> exact ⟨rfl, rfl⟩

theorem Notice.content_eq (n : Notice) (lost : Nat) :
    n.content lost = [0x51#8, BitVec.ofNat 8 n.kind] ++ u8 lost ++ n.items := by
  simp [Notice.content, u8, be]

theorem Notice.planChecked_failed_content (k : SlotId) (e : CheckError) (lost : Nat) :
    (Notice.planChecked k (some e)).content lost = [0x51#8, 6#8] ++ u8 lost ++
      (u8 (slotNum k) ++ [2#8] ++ (u8 e.table.code ++ u16 e.index ++ u8 e.kind.code)) := by
  have two : u8 2 = [2#8] := rfl
  rw [Notice.content_eq, ← two]
  rfl

/-- Settles O3: the layouts as the model writes them, the numbers and flags by the lemmas above. -/
theorem linkFrameLayouts : Obligations.LinkFrameLayouts := by
  refine ⟨fun n v => ⟨be_length n v, num_be n v, rfl, optField_none n, rfl, rfl, rfl, rfl, rfl, rfl, rfl⟩,
    fun ds => ⟨rfl, rfl⟩, ⟨rfl, fun bs b => (crc16_concat bs b).trans rfl⟩, fun content => rfl,
    fun r => rfl, fun lost l k g => ⟨fun _ _ => Notice.content_eq _ lost,
      fun _ _ _ => Notice.content_eq _ lost, fun _ _ _ => Notice.content_eq _ lost,
      Notice.content_eq _ lost, Notice.content_eq _ lost, Notice.content_eq _ lost,
      Notice.content_eq _ lost, fun e => Notice.planChecked_failed_content k e lost, Notice.content_eq _ lost,
      fun _ _ _ _ _ => Notice.content_eq _ lost⟩,
    fun d => ⟨rfl, flagsByte_bits _ _ _ _ _ _ _ _⟩, fun _ _ _ => ⟨rfl, rfl, rfl⟩,
    fun o => ReadOutcome.unresolved_items, ?_⟩
  refine ⟨rfl, rfl, rfl, rfl, rfl, rfl, rfl, rfl, rfl, rfl, rfl, rfl, rfl, rfl, rfl, rfl, rfl, rfl, rfl, rfl,
    rfl, rfl, rfl, ?_⟩
  decide

end Sys2Proof.Machine
end

section
/-! SUPPORT. The cold reset and its release (R204), and the warm reset of DEVICE RESET (R203). -/

namespace Sys2Proof.Machine

theorem Directory.fromHold_eq (d : Directory) :
    d.fromHold = { d with port := if d.holdLine then .held else .idle, holdAck := d.holdLine } := by
  cases h : d.holdLine <;> simp [Directory.fromHold, h]

theorem exec_resetRelease_of_reset {s : State} (h : s.resetLine = true) :
    exec .resetRelease s = .next { s with
      resetLine := false
      dir := { s.dir with
        port := if s.dir.holdLine then .held else .idle
        holdAck := s.dir.holdLine }
      link := { s.link with coldStart := true } } := by
  rw [show exec .resetRelease s = .next s.releaseReset from rfl, State.releaseReset, if_pos h,
    Directory.fromHold_eq]

theorem exec_resetRelease_of_not {s : State} (h : s.resetLine = false) :
    exec .resetRelease s = .next s := by
  rw [show exec .resetRelease s = .next s.releaseReset from rfl, State.releaseReset,
    if_neg (by simp [h])]

theorem Constants.cold_gates :
    Constants.cold.gates = Vector.ofFn (fun g : Fin 12 => ⟨4000 * (g.val + 1), 0, 0, 400⟩) := by
  decide

/-- Settles O4: each command but COLD_RESET and RESET_RELEASE is held while RESET is asserted, and the
cold-reset values are those of the model's blocks. -/
theorem resetInput : Obligations.ResetInput := by
  refine ⟨fun s => ⟨rfl, exec_resetRelease_of_reset, exec_resetRelease_of_not⟩,
    fun c s h hcold hrelease => ?_, fun entry => ?_, rfl, fun _ _ => rfl, rfl, rfl⟩
  · cases c with
    | leadingEdge l => exact ⟨_, if_pos h, .inr (.inl ⟨l, true, .inl ⟨rfl, rfl⟩, rfl⟩)⟩
    | trailingEdge l => exact ⟨_, if_pos h, .inr (.inl ⟨l, false, .inr ⟨rfl, rfl⟩, rfl⟩)⟩
    | holdAsserted => exact ⟨_, if_pos h, .inr (.inr (.inl ⟨true, .inl ⟨rfl, rfl⟩, rfl⟩))⟩
    | holdDeasserted => exact ⟨_, if_pos h, .inr (.inr (.inl ⟨false, .inr ⟨rfl, rfl⟩, rfl⟩))⟩
    | readyAsserted w =>
      exact ⟨_, if_pos h, .inr (.inr (.inr ⟨true, .inl ⟨⟨w, rfl⟩, rfl⟩, rfl⟩))⟩
    | readyDeasserted => exact ⟨_, rfl, .inr (.inr (.inr ⟨false, .inr ⟨rfl, rfl⟩, rfl⟩))⟩
    | coldReset => exact absurd rfl hcold
    | resetRelease => exact absurd rfl hrelease
    | _ => exact ⟨s, State.unlessReset_of_reset h, .inl rfl⟩
  · rw [← Constants.cold_gates]
    rfl

/-! ### The warm reset -/

theorem Directory.warm_eq (d : Directory) :
    d.warm = { d with
      search := none
      failed := false
      consecutive := 0
      timeouts := 0
      wanted := false
      readLine := false
      address := none
      port := if d.holdLine then .held else .idle
      holdAck := d.holdLine } := by
  rw [Directory.warm, Directory.fromHold_eq]

/-- With no request waiting none is taken. -/
theorem State.takeRequests_of_buffer_nil {s : State} (h : s.link.buffer = []) (n : Nat) :
    s.takeRequests n = s := by
  cases n with
  | zero => rfl
  | succ n => simp [State.takeRequests, h]

/-- A DEVICE RESET that waits is taken when a response leaves, and drops the requests behind it. -/
theorem State.settle_takes_deviceReset {s : State} {x : Response} {xs : List Response} {tag : Nat}
    {behind : List BufferedRequest} (idle : s.link.tx = none) (hx : s.link.responses = x :: xs)
    (full : s.link.responses.length + s.link.reserved = 16)
    (hb : s.link.buffer = ⟨tag, .deviceReset⟩ :: behind) :
    s.settle = ({ s with link := { s.link with
      tx := some (frame x.content), responses := xs, buffer := behind } } : State).perform tag
        .deviceReset := by
  have sent : s.transmit = { s with link := { s.link with
      tx := some (frame x.content), responses := xs } } := by
    simp only [State.transmit, Link.transmit_of_response idle hx]
  have place : ({ s with link := { s.link with
      tx := some (frame x.content), responses := xs } } : State).link.freePlaces ≠ 0 := fun h0 => by
    have waiting : 16 ≤ xs.length + s.link.reserved := Link.freePlaces_eq_zero_iff.1 h0
    rw [hx, List.length_cons] at full
    omega
  have kept : ∀ u : State, u.link.tx.isSome = true → u.link.buffer = [] →
      u.transmit.takeRequests behind.length = u := fun u busy empty => by
    rw [show u.transmit = u by simp only [State.transmit, Link.transmit_of_busy busy]]
    exact State.takeRequests_of_buffer_nil empty _
  rw [State.settle, sent, hb, List.length_cons, State.takeRequests]
  simp only [hb]
  refine (if_neg place).trans ?_
  exact kept (State.perform _ tag .deviceReset) rfl rfl

/-- Settles O5: the taking of DEVICE RESET, and what it makes of each block. -/
theorem deviceResetIsWarm : Obligations.DeviceResetIsWarm := by
  refine ⟨fun tag s hs => State.unlessReset_submit hs tag .deviceReset,
    fun tag behind s x xs hreset busy hx full hb => ?_, fun tag s => ⟨_, rfl, rfl, rfl, rfl, rfl, rfl, rfl,
      fun k => ?_, Directory.warm_eq s.dir, fun l => ?_⟩⟩
  · rw [show exec .frameSent s = s.unlessReset s.finishFrame from rfl, State.unlessReset_of_not hreset,
      State.finishFrame, if_pos busy]
    exact congrArg _ (State.settle_takes_deviceReset rfl hx full hb)
  · rw [show s.perform tag .deviceReset = s.reqDeviceReset tag from rfl, State.slot_reqDeviceReset]
    cases h : (s.slot k).state <;> simp [PlanSlot.warm, h]
  · rw [show s.perform tag .deviceReset = s.reqDeviceReset tag from rfl, State.lane_reqDeviceReset]
    rfl

end Sys2Proof.Machine
end

section
/-! SUPPORT. A request taken at once, as its action answers it; the requests that name no lane or slot;
positions (R1) and the pulse (R3, R174); LANE RUN, LANE STOP and LANE CLEAR (R11, R13, R18). -/

namespace Sys2Proof.Machine

/-! ### Requests taken at once -/

section
variable {s t : State} {c : Instr} {tag : Nat} {r : Request}

theorem exec_of_perform (hs : s.TakesAtOnce) (arrives : exec c s = s.unlessReset (s.submit tag r))
    (acts : s.perform tag r = t) : exec c s = .next t.transmit := by
  rw [arrives, State.unlessReset_submit hs, acts]

/-- A request of a lane, as the action of the lane it names. -/
theorem exec_of_lane {lane code : Nat} {l : LaneId} {act : LaneId → State} (hs : s.TakesAtOnce)
    (hl : laneOf lane = some l) (arrives : exec c s = s.unlessReset (s.submit tag r))
    (acts : s.perform tag r = s.withLane tag code lane act) (ht : act l = t) :
    exec c s = .next t.transmit :=
  exec_of_perform hs arrives (acts.trans ((State.withLane_eq hl tag code act).trans ht))

/-- A request of a slot, as the action of the slot it names. -/
theorem exec_of_slot {slot code : Nat} {k : SlotId} {act : SlotId → State} (hs : s.TakesAtOnce)
    (hk : slotOf slot = some k) (arrives : exec c s = s.unlessReset (s.submit tag r))
    (acts : s.perform tag r = s.withSlot tag code slot act) (ht : act k = t) :
    exec c s = .next t.transmit :=
  exec_of_perform hs arrives (acts.trans ((State.withSlot_eq hk tag code act).trans ht))

theorem laneOf_eq_none {n : Nat} (h : 2 ≤ n) : laneOf n = none := by
  match n, h with
  | n + 2, _ => rfl

theorem slotOf_eq_none {n : Nat} (h : 2 ≤ n) : slotOf n = none := by
  match n, h with
  | n + 2, _ => rfl

theorem exec_of_no_lane {lane code : Nat} {act : LaneId → State} (hs : s.TakesAtOnce) (hl : 2 ≤ lane)
    (arrives : exec c s = s.unlessReset (s.submit tag r))
    (acts : s.perform tag r = s.withLane tag code lane act) :
    exec c s = .next (s.answer tag code .badValue []).transmit :=
  exec_of_perform hs arrives (by rw [acts, State.withLane, laneOf_eq_none hl])

theorem exec_of_no_slot {slot code : Nat} {act : SlotId → State} (hs : s.TakesAtOnce) (hk : 2 ≤ slot)
    (arrives : exec c s = s.unlessReset (s.submit tag r))
    (acts : s.perform tag r = s.withSlot tag code slot act) :
    exec c s = .next (s.answer tag code .badValue []).transmit :=
  exec_of_perform hs arrives (by rw [acts, State.withSlot, slotOf_eq_none hk])

end

/-- Settles O7: a code outside the table, and a number that names no lane or slot. -/
theorem malformedRequestsRefused : Obligations.MalformedRequestsRefused := by
  refine ⟨fun tag code s hs => ⟨fun h => ?_, fun _ => exec_of_perform hs rfl rfl⟩,
    fun tag lane s hs hl => ?_, fun tag slot s hs hk => ?_⟩
  · exact exec_of_perform (r := parseRequest code []) hs rfl (by rw [parseRequest_of_unknown h]; rfl)
  · exact ⟨exec_of_no_lane hs hl rfl rfl, exec_of_no_lane hs hl rfl rfl, exec_of_no_lane hs hl rfl rfl,
      exec_of_no_lane hs hl rfl rfl, exec_of_no_lane hs hl rfl rfl,
      fun _ => exec_of_no_lane hs hl rfl rfl, exec_of_no_lane hs hl rfl rfl,
      exec_of_no_lane hs hl rfl rfl, fun _ => exec_of_no_lane hs hl rfl rfl,
      exec_of_no_lane hs hl rfl rfl, fun _ _ _ => exec_of_no_lane hs hl rfl rfl,
      fun _ => exec_of_no_lane hs hl rfl rfl, exec_of_no_lane hs hl rfl rfl,
      fun _ => exec_of_no_lane hs hl rfl rfl, fun _ => exec_of_no_lane hs hl rfl rfl,
      exec_of_no_lane hs hl rfl rfl, exec_of_no_lane hs hl rfl rfl⟩
  · exact ⟨exec_of_no_slot hs hk rfl rfl, fun _ _ => exec_of_no_slot hs hk rfl rfl,
      fun _ _ => exec_of_no_slot hs hk rfl rfl, fun _ => exec_of_no_slot hs hk rfl rfl,
      fun _ _ => exec_of_no_slot hs hk rfl rfl, fun _ => exec_of_no_slot hs hk rfl rfl,
      exec_of_no_slot hs hk rfl rfl, exec_of_no_slot hs hk rfl rfl,
      fun _ _ => exec_of_no_slot hs hk rfl rfl, fun _ _ => exec_of_no_slot hs hk rfl rfl⟩

/-! ### Positions -/

theorem fwd_eq (q p : Position) : fwd q p = (p.toNat + (16777216 - q.toNat)) % 16777216 := by
  simp only [fwd, BitVec.toNat_sub, Nat.reducePow]
  rw [Nat.add_comm]

theorem reached_iff {q p : Position} : reached q p = true ↔ fwd q p ≤ 8388607 := by simp [reached]

theorem past_iff {q p : Position} : past q p = true ↔ 1 ≤ fwd q p ∧ fwd q p ≤ 8388607 := by
  simp [past]

theorem ahead_toNat (q : Position) (d : Nat) : (ahead q d).toNat = (q.toNat + d) % 16777216 := by
  simp [ahead, BitVec.toNat_add]

theorem fwd_ahead (q : Position) (d : Nat) : fwd q (ahead q d) = d % 16777216 := by
  simp [fwd, ahead]

theorem fwd_behind (p : Position) (d : Nat) : fwd (behind p d) p = d % 16777216 := by
  simp [fwd, behind, sub_sub_cancel]

theorem Lane.pulse_eq (L : Lane) : L.pulse = { L with
    pos := BitVec.ofNat 24 ((L.pos.toNat + 1) % 16777216)
    speed := { L.speed with pulses := min 1048575 (L.speed.pulses + 1) } } := by
  have next : L.pos + 1 = BitVec.ofNat 24 ((L.pos.toNat + 1) % 16777216) := by
    apply BitVec.eq_of_toNat_eq
    simp [BitVec.toNat_add]
  rw [Lane.pulse, next]
  rfl

/-- Settles O10: positions as numbers mod 16,777,216, and the pulse on the lane's position and count. -/
theorem positionsAndPulses : Obligations.PositionsAndPulses := by
  refine ⟨fun q p d => ⟨fwd_eq q p, reached_iff, past_iff, ahead_toNat q d, fwd_ahead q d,
    fwd_behind p d⟩, fun l s h => ?_⟩
  rw [show exec (.encoderPulse l) s = s.unlessReset (s.modLane l Lane.pulse) from rfl,
    State.unlessReset_of_not h, State.modLane, Lane.pulse_eq]

end Sys2Proof.Machine
end

section
/-! SUPPORT. LANE RUN, LANE STOP and LANE CLEAR by lane state (R11, R13, R14, R18). -/

namespace Sys2Proof.Machine

theorem State.raise_setLane (s : State) (n : Notice) (l : LaneId) (L : Lane) :
    (s.raise n).setLane l L = (s.setLane l L).raise n := by
  cases l <;> rfl

/-! ### The ACTIVE slot -/

theorem State.activeSlot_eq_none_iff {s : State} :
    s.activeSlot = none ↔ ∀ k, (s.slot k).state ≠ .active := by
  constructor
  · intro h k
    unfold State.activeSlot at h
    cases k <;> grind [State.slot]
  · intro h
    simp [State.activeSlot, show s.slot0.state ≠ .active from h .slot0,
      show s.slot1.state ≠ .active from h .slot1]

/-! ### The end of a drain -/

theorem State.reportEmpty_of_not {s : State} {l : LaneId}
    (h : (s.lane l).track ≠ [] ∨ (s.lane l).state ≠ .draining) : s.reportEmpty l = s :=
  if_neg (by tauto)

theorem State.reportEmpty_of_drained {s : State} {l : LaneId} (ht : (s.lane l).track = [])
    (hs : (s.lane l).state = .draining) :
    s.reportEmpty l = (s.setLane l { s.lane l with
      state := .stopped
      run := false
      drainTimer := false
      holds := Vector.replicate 12 []
      gateOut := Vector.replicate 12 false }).raise (.laneState l .stopped .drained) := by
  rw [State.reportEmpty, if_pos ⟨ht, hs⟩, State.enterLane, State.modLane_modLane]
  rfl

/-- The lane in DRAINING, before the track reports whether it is empty. -/
def Lane.drain (L : Lane) : Lane :=
  { L with state := .draining, run := true, startTimer := false, drainTimer := true }

theorem State.startDrain_eq (s : State) (l : LaneId) :
    s.startDrain l =
      ((s.setLane l (s.lane l).drain).raise (.laneState l .draining .stop)).reportEmpty l := by
  rw [State.startDrain, State.enterLane, State.modLane_modLane]
  rfl

theorem State.startDrain_of_records {s : State} {l : LaneId} (h : (s.lane l).track ≠ []) :
    s.startDrain l = (s.setLane l (s.lane l).drain).raise (.laneState l .draining .stop) := by
  rw [State.startDrain_eq, State.reportEmpty_of_not (.inl (by simpa [Lane.drain] using h))]

theorem State.startDrain_of_empty {s : State} {l : LaneId} (h : (s.lane l).track = []) :
    s.startDrain l = ((s.setLane l { s.lane l with
      state := .stopped
      run := false
      startTimer := false
      drainTimer := false
      holds := Vector.replicate 12 []
      gateOut := Vector.replicate 12 false }).raise (.laneState l .draining .stop)).raise
        (.laneState l .stopped .drained) := by
  rw [State.startDrain_eq, State.reportEmpty_of_drained (by simpa [Lane.drain] using h)
    (by simp [Lane.drain]), State.raise_setLane]
  simp [Lane.drain]

/-- Settles O9: each lane state's arm of LANE RUN and of LANE STOP. -/
theorem laneRunAndStopByState : Obligations.LaneRunAndStopByState := by
  refine ⟨fun s => ⟨State.activeSlot_eq_none_iff, fun k h => State.slot_state_of_activeSlot h⟩,
    fun tag lane l s hs hl => ⟨fun hst => ⟨fun hact => ?_, fun hact => ⟨fun x hx => ?_, fun hx => ?_⟩⟩,
      fun hst => ?_, fun hst => ?_, fun hst => ?_⟩,
    fun tag lane l s hs hl => ⟨fun hst => ⟨fun ht => ?_, fun ht => ?_⟩, fun hst => ?_, fun hst => ?_⟩⟩
  · exact exec_of_lane hs hl rfl rfl (by simp [hst, hact])
  · exact exec_of_lane hs hl rfl rfl (by simp [hst, hact, hx, Inconsistency.itemFields])
  · refine exec_of_lane hs hl rfl rfl ?_
    simp only [hst, Option.isNone_iff_eq_none, hact, if_false, hx]
    rw [State.enterLane, State.modLane_modLane]
    rfl
  · refine exec_of_lane hs hl rfl rfl ?_
    obtain hst | hst := hst <;> simp [hst]
  · exact exec_of_lane hs hl rfl rfl (by simp [hst])
  · exact exec_of_lane hs hl rfl rfl (by simp [hst])
  · refine exec_of_lane hs hl rfl rfl ?_
    obtain hst | hst := hst <;> simp only [hst, State.startDrain_of_records ht] <;> rfl
  · refine exec_of_lane hs hl rfl rfl ?_
    obtain hst | hst := hst <;> simp only [hst, State.startDrain_of_empty ht]
  · refine exec_of_lane hs hl rfl rfl ?_
    obtain hst | hst := hst <;> simp [hst]
  · exact exec_of_lane hs hl rfl rfl (by simp [hst])

end Sys2Proof.Machine
end

section
/-! SUPPORT. LANE CLEAR (R18), CONSTANTS WRITE and MACHINE LOCK (R6, R9), and the reports of a lane
(R7, R20, R41, R151, R170, R185). -/

namespace Sys2Proof.Machine

/-- Settles O13: a FAULTED lane is cleared, any other refuses. -/
theorem laneClearAbandons : Obligations.LaneClearAbandons := by
  refine fun tag lane l s hs hl => ⟨fun hst => ⟨s.clearLane l, ?_, rfl, ?_, fun l' hl' => ?_⟩, fun hst => ?_⟩
  · exact exec_of_lane hs hl rfl rfl (by simp [hst])
  · rw [State.clearLane_lane, if_pos rfl]
    rfl
  · rw [State.clearLane_lane, if_neg hl']
  · refine exec_of_lane hs hl rfl rfl ?_
    cases h : (s.lane l).state with
    | faulted => exact absurd h hst
    | _ => rfl

/-! ### Machine constants -/

/-- The item codes of R5 with their ranges. -/
theorem constantRange_eq_some_iff {code low high : Nat} :
    constantRange code = some (low, high) ↔
      (code, low, high) ∈ [(1, 0, 12), (2, 1, 1048575), (3, 0, 20000), (4, 0, 4095),
        (5, 1, 65535), (6, 1, 1048575), (7, 1, 65535), (8, 0, 4), (9, 0, 65535), (10, 0, 255),
        (11, 1, 1048575), (12, 1, 255), (13, 1, 4095), (14, 0, 65535), (15, 0, 16383), (16, 1, 7),
        (17, 1, 15), (18, 1, 60), (19, 1, 120)] := by
  constructor
  · intro h
    unfold constantRange at h
    split at h <;> simp_all
  · have listed : ∀ e ∈ [(1, 0, 12), (2, 1, 1048575), (3, 0, 20000), (4, 0, 4095),
        (5, 1, 65535), (6, 1, 1048575), (7, 1, 65535), (8, 0, 4), (9, 0, 65535), (10, 0, 255),
        (11, 1, 1048575), (12, 1, 255), (13, 1, 4095), (14, 0, 65535), (15, 0, 16383), (16, 1, 7),
        (17, 1, 15), (18, 1, 60), (19, 1, 120)], constantRange e.1 = some e.2 := by decide
    exact listed (code, low, high)

theorem constantIndexOk_iff {code index : Nat} : constantIndexOk code index = true ↔
    (2 ≤ code → code ≤ 5 → 1 ≤ index ∧ index ≤ 12) ∧ (code = 9 → index ≤ 3) := by
  unfold constantIndexOk
  grind

theorem constantItemOk_iff {x : ConstantItem} : constantItemOk x = true ↔
    (∃ low high, constantRange x.code = some (low, high) ∧ low ≤ x.value ∧ x.value ≤ high) ∧
      constantIndexOk x.code x.index = true := by
  unfold constantItemOk
  cases constantRange x.code with
  | none => simp
  | some r => simp [and_comm, and_left_comm, and_assoc, Prod.ext_iff]

theorem Constants.modGate_succ (c : Constants) (g : Gate) (f : GateConstants → GateConstants) :
    c.modGate (g.val + 1) f = { c with gates := c.gates.set g.val (f c.gates[g.val]) } := by
  simp [Constants.modGate, gateOf_succ]

/-- Settles O14: the refusals in their order, the write, and the table of codes. -/
theorem constantsWriteAndLock : Obligations.ConstantsWriteAndLock := by
  refine ⟨fun tag lane items l s hs hl => ⟨fun hst => ?_, fun hst hlock => ?_, fun hst hlock =>
      ⟨fun before x after hitems hok hbad => ?_, fun hok => ?_⟩⟩,
    fun tag lane l s hs hl => exec_of_lane hs hl rfl rfl rfl, fun x => ?_, fun c i v => ?_⟩
  · exact exec_of_lane hs hl rfl rfl (if_pos hst)
  · exact exec_of_lane hs hl rfl rfl (by simp [hst, hlock])
  · have first : items.find? (fun x => !constantItemOk x) = some x := by
      rw [hitems]
      exact find?_append_cons (by simp [hbad]) fun y hy => by simp [hok y hy]
    exact exec_of_lane hs hl rfl rfl (by simp [hst, hlock, first])
  · have all : items.find? (fun x => !constantItemOk x) = none :=
      List.find?_eq_none.2 fun y hy => by simp [hok y hy]
    exact exec_of_lane hs hl rfl rfl (by simp [hst, hlock, all, State.modLane])
  · simp only [constantItemOk_iff, constantRange_eq_some_iff, constantIndexOk_iff]
  · refine ⟨rfl, fun g k hk => ?_, rfl, rfl, rfl, fun h => dif_pos h.isLt, rfl, rfl, rfl, rfl, rfl, rfl, rfl,
      rfl, rfl, rfl⟩
    subst hk
    exact ⟨c.modGate_succ g fun k => { k with distance := v },
      c.modGate_succ g fun k => { k with leadTime := v }, c.modGate_succ g fun k => { k with dwell := v },
      c.modGate_succ g fun k => { k with confirm := v }⟩

/-! ### The latest release of a hold set -/

/-- Among positions within half the range of one position, the one past another is the farther. -/
theorem past_iff_fwd_lt {q r x : Position} (hr : fwd q r ≤ 8388607) (hx : fwd q x ≤ 8388607) :
    past r x = true ↔ fwd q r < fwd q x := by
  rw [past_iff]
  simp only [fwd_eq] at *
  have := q.isLt
  have := r.isLt
  have := x.isLt
  omega

/-- The later of two releases. -/
def laterRelease (r : Position) (h : Hold) : Position := if past r h.releaseAt then h.releaseAt else r

theorem laterRelease_foldl {q : Position} (hs : List Hold) (r : Position) (hr : fwd q r ≤ 8388607)
    (near : ∀ h ∈ hs, fwd q h.releaseAt ≤ 8388607) :
    (hs.foldl laterRelease r = r ∨ ∃ h ∈ hs, hs.foldl laterRelease r = h.releaseAt) ∧
      fwd q r ≤ fwd q (hs.foldl laterRelease r) ∧
      ∀ h ∈ hs, fwd q h.releaseAt ≤ fwd q (hs.foldl laterRelease r) := by
  induction hs generalizing r with
  | nil => simp
  | cons h hs ih =>
    have hh := near h (by simp)
    have rest : ∀ x ∈ hs, fwd q x.releaseAt ≤ 8388607 := fun x hx => near x (by simp [hx])
    have later := past_iff_fwd_lt hr hh
    rw [List.foldl_cons]
    by_cases hp : past r h.releaseAt = true
    · have step : laterRelease r h = h.releaseAt := if_pos hp
      rw [step]
      obtain ⟨among, start, each⟩ := ih h.releaseAt hh rest
      refine ⟨.inr ?_, ((later.1 hp).le).trans start, ?_⟩
      · obtain eq | ⟨x, hx, eq⟩ := among
        · exact ⟨h, by simp, eq⟩
        · exact ⟨x, by simp [hx], eq⟩
      · exact List.forall_mem_cons.2 ⟨start, each⟩
    · have step : laterRelease r h = r := if_neg hp
      rw [step]
      obtain ⟨among, start, each⟩ := ih r hr rest
      refine ⟨among.imp_right fun ⟨x, hx, eq⟩ => ⟨x, by simp [hx], eq⟩, start, ?_⟩
      exact List.forall_mem_cons.2 ⟨(Nat.le_of_not_lt (mt later.2 hp)).trans start, each⟩

theorem latestRelease_is_last {q : Position} {hs : List Hold} (hne : hs ≠ [])
    (near : ∀ h ∈ hs, fwd q h.releaseAt ≤ 8388607) :
    ∃ h ∈ hs, latestRelease hs = some h.releaseAt ∧
      ∀ h' ∈ hs, fwd q h'.releaseAt ≤ fwd q h.releaseAt := by
  obtain ⟨h, hs, rfl⟩ := List.exists_cons_of_ne_nil hne
  obtain ⟨among, start, each⟩ := laterRelease_foldl hs h.releaseAt (near h (by simp))
    fun x hx => near x (by simp [hx])
  have last : latestRelease (h :: hs) = some (hs.foldl laterRelease h.releaseAt) := rfl
  have all := List.forall_mem_cons (p := fun h' : Hold =>
    fwd q h'.releaseAt ≤ fwd q (hs.foldl laterRelease h.releaseAt)) |>.2 ⟨start, each⟩
  obtain eq | ⟨x, hx, eq⟩ := among
  · exact ⟨h, by simp, by rw [last, eq], by rwa [eq] at all⟩
  · exact ⟨x, by simp [hx], by rw [last, eq], by rwa [eq] at all⟩

/-! ### The layouts -/

theorem pulseField_length (n : Nat) : (pulseField n).length = 2 := by
  unfold pulseField
  split <;> exact u16_length _

theorem Lane.expecting_eq (L : Lane) :
    L.expecting = allGates.filter (fun g => L.outstanding g ≠ []) := by
  refine List.filter_congr fun g _ => ?_
  cases L.outstanding g <;> rfl

theorem outcomeReadFields_resolved (str : List Digit) (n : Nat) (c : Bool) :
    outcomeReadFields (some (.resolved str n c)) = u8 1 ++ optDigits (some str) ++ u8 n ++ bit c := rfl

theorem outcomeReadFields_unresolved {o : Option ReadOutcome}
    (h : ∀ str n c, o ≠ some (.resolved str n c)) :
    outcomeReadFields o =
      u8 ((o.map ReadOutcome.code).getD 0) ++ optDigits none ++ u8 0xFF ++ bit false := by
  cases o with
  | none => rfl
  | some o =>
    cases o with
    | resolved str n c => exact absurd rfl (h str n c)
    | _ => rfl

theorem optPos_map {α : Type} (o : Option α) (f : α → Position) :
    optPos (o.map f) = optField 3 (o.map fun x => (f x).toNat) := by
  rw [optPos, Option.map_map]
  rfl

/-- Settles O16: each report's answer, and its layout. -/
theorem laneReportsChangeNothing : Obligations.LaneReportsChangeNothing := by
  refine ⟨fun tag lane l s hs hl => ⟨exec_of_lane hs hl rfl rfl rfl, exec_of_lane hs hl rfl rfl rfl,
      fun i p hp => ?_, fun i hi => ?_, exec_of_lane hs hl rfl rfl rfl, exec_of_lane hs hl rfl rfl rfl,
      exec_of_lane hs hl rfl rfl rfl⟩,
    fun c => rfl, ⟨rfl, fun x => rfl⟩, fun p => ?_, fun L g => ?_, fun L oldest hnil hcons => ?_,
    fun L => ⟨pulseField L.speed.pulses, pulseField_length _, fun h => if_pos h, rfl⟩⟩
  · exact exec_of_lane hs hl rfl rfl (by simp only [hp])
  · have : (s.lane l).track[i]? = none := List.getElem?_eq_none hi
    exact exec_of_lane hs hl rfl rfl (by simp only [this])
  · have slots : reportFields = fun
        | none => optField 3 none ++ u8 0 ++ optDigits none
        | some r => u24 r.stamp.toNat ++ u8 (if r.digits.isSome then 1 else 2) ++ optDigits r.digits := by
      funext r
      cases r <;> rfl
    have gates : gateNum = fun g : Gate => g.val + 1 := rfl
    delta Piece.fields
    rw [slots, gates, optPos_map, optPos_map]
    cases p.outcome with
    | none => rw [outcomeReadFields_unresolved fun _ _ _ => by simp]; rfl
    | some o =>
      cases o with
      | resolved str n c => rw [outcomeReadFields_resolved]; rfl
      | _ => rw [outcomeReadFields_unresolved fun _ _ _ => by simp]; rfl
  · refine ⟨latestRelease L.holds[g.val], rfl, fun h => by rw [h]; rfl, fun q hne near =>
      latestRelease_is_last hne near⟩
  · have head : oldest = oldestFields := by
      funext ps
      cases ps with
      | nil => exact hnil
      | cons p ps => rw [hcons, oldestFields, optPos, optPos, Option.map_map, Option.map_map]; rfl
    rw [head, ← L.expecting_eq]
    rfl

end Sys2Proof.Machine
end

section
/-! SUPPORT. Finalization and what follows it (R36, R38, R85, R86, R126, R166): the reference released, the
request withdrawn, the JAM report that waits and the end of a drain. -/

namespace Sys2Proof.Machine

/-! ### References -/

theorem State.releaseRef_of_last {s : State} {k : SlotId} (hst : (s.slot k).state = .retiring)
    (hr : (s.slot k).refs ≤ 1) :
    s.releaseRef k =
      (s.setSlot k { s.slot k with refs := 0, state := .ready }).raise (.planRetired k) := by
  have none_left : (s.slot k).refs - 1 = 0 := by omega
  rw [State.releaseRef, if_pos ⟨hst, none_left⟩, State.modSlot, none_left]

theorem State.releaseRef_of_other {s : State} {k : SlotId}
    (h : (s.slot k).state ≠ .retiring ∨ 2 ≤ (s.slot k).refs) :
    s.releaseRef k = s.setSlot k { s.slot k with refs := (s.slot k).refs - 1 } := by
  rw [State.releaseRef, if_neg fun hc => ?_, State.modSlot]
  obtain h | h := h
  · exact h hc.1
  · omega

/-! ### Withdrawal -/

theorem LookupUnit.withdraw_eq (u : LookupUnit) (l : LaneId) (n : Nat) : u.withdraw l n = { u with
    queue := u.queue.filter (fun r => r.requester ≠ .piece l n)
    passCount :=
      if u.queue.head?.any (fun r => r.requester = .piece l n) then 0 else u.passCount } := by
  rw [LookupUnit.withdraw]
  cases u.queue.head? <;> simp

/-! ### Finalization -/

/-- The part once the record has left the track and its reference is released where it is held. -/
def State.untracked (s : State) (l : LaneId) (p : Piece) : State :=
  (if p.stage ≠ .decided ∧ p.lookup ≠ .inProgress then s.releaseRef p.slot else s).setLane l
    ((s.lane l).removePiece p.number)

/-- The part before the record's disposition is offered: a queued request of it is withdrawn. -/
def State.finalized (s : State) (l : LaneId) (p : Piece) : State :=
  { s.untracked l p with
    lookup := if p.lookup = .queued then s.lookup.withdraw l p.number else s.lookup }

theorem State.lookup_untracked (s : State) (l : LaneId) (p : Piece) :
    (s.untracked l p).lookup = s.lookup := by
  unfold State.untracked
  split <;> simp

theorem State.finalize_eq (s : State) (l : LaneId) (p : Piece) (f : FinalState) :
    s.finalize l p f = (s.finalized l p).offer (Disposition.of l p.atFinalization f) := by
  have released : (if p.stage ≠ .decided ∧ p.lookup ≠ .inProgress then
      (s.modLane l (fun L => L.removePiece p.number)).releaseRef p.slot
      else s.modLane l (fun L => L.removePiece p.number)) = s.untracked l p := by
    unfold State.untracked
    split
    · exact State.releaseRef_setLane ..
    · rfl
  have lookup := s.lookup_untracked l p
  unfold State.finalize State.finalized
  simp only [released]
  split
  · rw [lookup]
  · rw [← lookup]

section
variable (s : State) (l : LaneId) (p : Piece)

theorem State.lane_finalized (l' : LaneId) :
    (s.finalized l p).lane l' = if l' = l then (s.lane l).removePiece p.number else s.lane l' := by
  simp only [State.finalized, State.lane_with_lookup, State.untracked, State.lane_setLane]
  split
  · rfl
  · split <;> simp

theorem State.finalized_frame : s.Frame (s.finalized l p) := by
  refine State.Frame.trans ?_ (State.lookup_frame (s.untracked l p) _)
  unfold State.untracked
  refine State.Frame.trans ?_ (State.modLane_frame _ l fun _ => (s.lane l).removePiece p.number)
  split
  · exact State.releaseRef_frame s p.slot
  · exact State.Frame.refl s

theorem State.finalized_released (h : p.stage ≠ .decided ∧ p.lookup ≠ .inProgress) :
    (∀ k, (s.finalized l p).slot k = (s.releaseRef p.slot).slot k) ∧
      (s.finalized l p).link = (s.releaseRef p.slot).link := by
  have untracked : s.untracked l p =
      (s.releaseRef p.slot).setLane l ((s.lane l).removePiece p.number) := by
    rw [State.untracked, if_pos h]
  refine ⟨fun k => ?_, ?_⟩
  · rw [State.finalized, State.slot_with_lookup, untracked, State.slot_setLane]
  · rw [State.finalized, untracked, State.link_setLane]

theorem State.finalized_kept (h : p.stage = .decided ∨ p.lookup = .inProgress) :
    (∀ k, (s.finalized l p).slot k = s.slot k) ∧ (s.finalized l p).link = s.link := by
  have not_released : ¬ (p.stage ≠ .decided ∧ p.lookup ≠ .inProgress) := by tauto
  have untracked : s.untracked l p = s.setLane l ((s.lane l).removePiece p.number) := by
    rw [State.untracked, if_neg not_released]
  refine ⟨fun k => ?_, ?_⟩
  · rw [State.finalized, State.slot_with_lookup, untracked, State.slot_setLane]
  · rw [State.finalized, untracked, State.link_setLane]

end

/-! ### The waiting JAM report -/

theorem Lane.closesAt_iff {L : Lane} {q : Position} :
    L.closesAt q = true ↔ ∃ p ∈ L.track, ∃ w, p.window = some w ∧ w.closes = q := by
  simp [Lane.closesAt]

theorem State.settleJam_of_none {s : State} {l : LaneId} (h : (s.lane l).jamPending = none) :
    s.settleJam l = s := by
  simp only [State.settleJam, h]

theorem State.settleJam_of_closing {s : State} {l : LaneId} {q : Position}
    (h : (s.lane l).jamPending = some q) (hc : (s.lane l).closesAt q = true) : s.settleJam l = s := by
  simp only [State.settleJam, h, hc, if_true]

theorem State.settleJam_of_last {s : State} {l : LaneId} {q : Position}
    (h : (s.lane l).jamPending = some q) (hc : (s.lane l).closesAt q = false) :
    s.settleJam l = (s.setLane l { s.lane l with jamPending := none }).faultReport l .jam := by
  simp only [State.settleJam, h, hc, Bool.false_eq_true, if_false]
  rfl

/-- Settles O23: finalization, the reference, the withdrawal, and the two reports that may follow. -/
theorem finalizationAndWhatFollows : Obligations.FinalizationAndWhatFollows := by
  refine ⟨fun l p f s => ⟨s.finalized l p, s.finalize_eq l p f, ?_, fun l' hl' => ?_, rfl,
      fun h => s.finalized_kept l p h, fun hs hl => s.finalized_released l p ⟨hs, hl⟩,
      (s.finalized_frame l p).hot, (s.finalized_frame l p).dir, (s.finalized_frame l p).checker⟩,
    fun l p f => ?_, fun u l n => u.withdraw_eq l n,
    fun k s => ⟨State.releaseRef_of_last, State.releaseRef_of_other⟩,
    fun l s => ⟨State.settleJam_of_none, fun q hq => ⟨fun h => State.settleJam_of_closing hq
      (Lane.closesAt_iff.2 h), fun h => ?_⟩, State.reportEmpty_of_not, State.reportEmpty_of_drained⟩⟩
  · rw [State.lane_finalized, if_pos rfl]
    rfl
  · rw [State.lane_finalized, if_neg hl']
  · rw [Disposition.of]
    obtain _ | (⟨str, n, c⟩ | _ | _ | _ | _) := p.outcome <;> cases p.route <;> rfl
  · have last : (s.lane l).closesAt q = false := Bool.eq_false_iff.2 fun hc => by
      obtain ⟨p, hp, w, hw, hq⟩ := Lane.closesAt_iff.1 hc
      exact h p hp w hw hq
    rw [State.settleJam_of_last hq last]
    exact ⟨fun active => State.faultReport_of_active .jam (by simpa using active),
      fun inactive => State.faultReport_of_inactive .jam (by simpa using inactive)⟩

end Sys2Proof.Machine
end

section
/-! SUPPORT. Entry into FAULTED (R17, R126): the lane's requests withdrawn in queue order, their records
and references; and the outcome of an event with no request waiting. -/

namespace Sys2Proof.Machine

/-! ### Events -/

/-- An event that leaves the request buffer alone, taken with no request waiting. -/
theorem State.WideFrame.event {s t : State} (hs : s.Quiet) (h : s.WideFrame t) :
    s.unlessReset t.settle = .next t.transmit := by
  obtain ⟨hreset, hb⟩ := hs
  rw [State.unlessReset_of_not hreset, State.settle_of_buffer_nil (h.buffer.trans hb)]

theorem State.Frame.event {s t : State} (hs : s.Quiet) (h : s.Frame t) :
    s.unlessReset t.settle = .next t.transmit := h.wide.event hs

/-! ### A reference released does not read the rest of the part -/

/-- The two parts agree in what the release of a reference reads and writes. -/
def State.SameRefs (s t : State) : Prop := (∀ k, t.slot k = s.slot k) ∧ t.link = s.link

theorem State.SameRefs.releaseRef {s t : State} (h : s.SameRefs t) (k : SlotId) :
    (s.releaseRef k).SameRefs (t.releaseRef k) := by
  obtain ⟨slots, link⟩ := h
  unfold State.releaseRef
  rw [slots k]
  split
  · exact ⟨fun k' => by simp [slots], by simp [State.raise, link]⟩
  · exact ⟨fun k' => by simp [slots], by simp [link]⟩

theorem State.SameRefs.releaseAll {s t : State} (h : s.SameRefs t) (ks : List SlotId) :
    (ks.foldl State.releaseRef s).SameRefs (ks.foldl State.releaseRef t) := by
  induction ks generalizing s t with
  | nil => exact h
  | cons k ks ih => exact ih (h.releaseRef k)

theorem State.SameRefs.trans {s t u : State} (h : s.SameRefs t) (k : t.SameRefs u) : s.SameRefs u :=
  ⟨fun x => (k.1 x).trans (h.1 x), k.2.trans h.2⟩

/-! ### One request withdrawn -/

/-- The record whose request has been withdrawn (R126). -/
def Piece.withdrawn (p : Piece) : Piece := { p with lookup := .withdrawn, stage := .decided }

/-- The slots whose references the withdrawal of these pieces' requests releases. -/
def Lane.slotsOf (L : Lane) (ns : List Nat) : List SlotId :=
  ns.filterMap (fun n => (L.piece n).map Piece.slot)

theorem Lane.modPiece_of_absent {L : Lane} {n : Nat} (h : L.piece n = none) (f : Piece → Piece) :
    L.modPiece n f = L := by
  have absent : ∀ p ∈ L.track, (if p.number = n then f p else p) = p := fun p hp => by
    have := List.find?_eq_none.1 h p hp
    exact if_neg (by simpa using this)
  rw [Lane.modPiece, List.map_congr_left absent, List.map_id']

theorem State.lane_withdrawPiece (s : State) (l : LaneId) (n : Nat) :
    (s.withdrawPiece l n).lane l = (s.lane l).modPiece n Piece.withdrawn := by
  unfold State.withdrawPiece
  split
  · next p hp =>
    rw [State.withdrawDecided, Lane.number_of_piece hp]
    simp [State.modPiece]
    rfl
  · next hp => rw [Lane.modPiece_of_absent hp, State.lane_with_lookup]

theorem State.lookup_withdrawPiece (s : State) (l : LaneId) (n : Nat) :
    (s.withdrawPiece l n).lookup = s.lookup.withdraw l n := by
  unfold State.withdrawPiece
  split
  · next p hp => simp [State.withdrawDecided, State.modPiece, Lane.number_of_piece hp]
  · rfl

theorem State.refs_withdrawPiece (s : State) (l : LaneId) (n : Nat) :
    (((s.lane l).slotsOf [n]).foldl State.releaseRef s).SameRefs (s.withdrawPiece l n) := by
  unfold State.withdrawPiece
  split
  · next p hp =>
    simp only [Lane.slotsOf, List.filterMap_cons, hp, Option.map_some, List.filterMap_nil,
      List.foldl_cons, List.foldl_nil]
    have withdrawn : s.SameRefs ({ s with lookup := s.lookup.withdraw l p.number }.modPiece l p.number
        Piece.withdrawn) := ⟨fun k => by simp [State.modPiece], by simp [State.modPiece]⟩
    exact withdrawn.releaseRef p.slot
  · next hp =>
    simp only [Lane.slotsOf, List.filterMap_cons, hp, Option.map_none, List.filterMap_nil,
      List.foldl_nil]
    exact ⟨fun k => by simp, rfl⟩

/-- The withdrawal of a request changes no record's number or slot. -/
theorem Lane.slotsOf_withdrawn (L : Lane) (n : Nat) (ns : List Nat) :
    (L.modPiece n Piece.withdrawn).slotsOf ns = L.slotsOf ns := by
  have same : ∀ m, ((L.modPiece n Piece.withdrawn).piece m).map Piece.slot =
      (L.piece m).map Piece.slot := fun m => by
    have number : (fun p : Piece => decide (p.number = m)) ∘
        (fun p => if p.number = n then p.withdrawn else p) = fun p => decide (p.number = m) := by
      funext p
      simp only [Function.comp_apply]
      split <;> rfl
    simp only [Lane.piece, Lane.modPiece, List.find?_map, number, Option.map_map]
    congr 1
    funext p
    simp only [Function.comp_apply]
    split <;> rfl
  simp only [Lane.slotsOf, same]

/-! ### Several requests withdrawn -/

/-- The requests of these pieces are withdrawn in turn. -/
def State.withdrawPieces (s : State) (l : LaneId) (ns : List Nat) : State :=
  ns.foldl (fun s n => s.withdrawPiece l n) s

theorem State.withdrawLane_eq (s : State) (l : LaneId) :
    s.withdrawLane l = s.withdrawPieces l (s.lookup.queuedOf l) := rfl

theorem State.lane_withdrawPieces (l : LaneId) (ns : List Nat) (s : State) :
    (s.withdrawPieces l ns).lane l = { s.lane l with
      track := (s.lane l).track.map (fun p => if p.number ∈ ns then p.withdrawn else p) } := by
  induction ns generalizing s with
  | nil => simp [State.withdrawPieces]
  | cons n ns ih =>
    have both : (fun q : Piece => if q.number ∈ ns then q.withdrawn else q) ∘
        (fun p => if p.number = n then p.withdrawn else p) =
          fun p => if p.number ∈ n :: ns then p.withdrawn else p := by
      funext p
      have number : p.withdrawn.number = p.number := rfl
      have twice : p.withdrawn.withdrawn = p.withdrawn := rfl
      by_cases h : p.number = n
      · simp [h, number, twice]
      · simp [h]
    refine (ih (s.withdrawPiece l n)).trans ?_
    rw [State.lane_withdrawPiece, Lane.modPiece]
    simp only [List.map_map, both]

theorem State.lookup_withdrawPieces (l : LaneId) (ns : List Nat) (s : State) :
    (s.withdrawPieces l ns).lookup = ns.foldl (fun u n => u.withdraw l n) s.lookup := by
  induction ns generalizing s with
  | nil => rfl
  | cons n ns ih =>
    refine (ih (s.withdrawPiece l n)).trans ?_
    rw [State.lookup_withdrawPiece, List.foldl_cons]

theorem State.refs_withdrawPieces (l : LaneId) (ns : List Nat) (s : State) :
    (((s.lane l).slotsOf ns).foldl State.releaseRef s).SameRefs (s.withdrawPieces l ns) := by
  induction ns generalizing s with
  | nil => exact ⟨fun _ => rfl, rfl⟩
  | cons n ns ih =>
    have split : (s.lane l).slotsOf (n :: ns) = (s.lane l).slotsOf [n] ++ (s.lane l).slotsOf ns := by
      rw [Lane.slotsOf, ← List.singleton_append, List.filterMap_append]
      rfl
    rw [split, List.foldl_append]
    refine ((s.refs_withdrawPiece l n).releaseAll _).trans ?_
    have rest := ih (s.withdrawPiece l n)
    rwa [State.lane_withdrawPiece, Lane.slotsOf_withdrawn] at rest

/-! ### A lane's requests leave the queue -/

/-- The request is of a piece of the lane. -/
def LookupRequest.ofLane (r : LookupRequest) (l : LaneId) : Bool :=
  match r.requester with
  | .piece l' _ => l' = l
  | .query _ => false

theorem LookupRequest.ofLane_iff {r : LookupRequest} {l : LaneId} :
    r.ofLane l = true ↔ ∃ n, r.requester = .piece l n := by
  unfold LookupRequest.ofLane
  split <;> simp_all

theorem LookupUnit.mem_queuedOf {u : LookupUnit} {l : LaneId} {n : Nat} :
    n ∈ u.queuedOf l ↔ ∃ r ∈ u.queue, r.requester = .piece l n := by
  simp only [LookupUnit.queuedOf, List.mem_filterMap]
  refine exists_congr fun r => and_congr_right fun _ => ?_
  cases r.requester <;> simp

theorem LookupUnit.foldl_withdraw_rest (l : LaneId) (ns : List Nat) (u : LookupUnit) :
    ∃ pass, ns.foldl (fun u n => u.withdraw l n) u = { u with
      queue := u.queue.filter (fun r => ∀ n ∈ ns, r.requester ≠ .piece l n), passCount := pass } := by
  induction ns generalizing u with
  | nil => exact ⟨u.passCount, by simp⟩
  | cons n ns ih =>
    obtain ⟨pass, h⟩ := ih (u.withdraw l n)
    refine ⟨pass, ?_⟩
    rw [List.foldl_cons, h, LookupUnit.withdraw]
    simp only [List.filter_filter, List.forall_mem_cons]
    congr 2
    funext r
    simp [Bool.and_comm]

/-- The withdrawal of requests behind another's leaves the pass count. -/
theorem LookupUnit.foldl_withdraw_behind (l : LaneId) (ns : List Nat) (u : LookupUnit)
    (h : u.queue.head?.any (fun r => r.ofLane l) = false) :
    (ns.foldl (fun u n => u.withdraw l n) u).passCount = u.passCount := by
  induction ns generalizing u with
  | nil => rfl
  | cons n ns ih =>
    have front : ∀ r, u.queue.head? = some r → r.requester ≠ .piece l n := fun r hr hn => by
      rw [hr, Option.any_some, LookupRequest.ofLane_iff.2 ⟨n, hn⟩] at h
      exact Bool.noConfusion h
    have same : (u.withdraw l n).passCount = u.passCount := if_neg fun hn => by
      obtain ⟨r, hr, hn⟩ := Option.map_eq_some_iff.1 hn
      exact front r hr hn
    refine (ih _ ?_).trans same
    cases hq : u.queue with
    | nil => simp [LookupUnit.withdraw, hq]
    | cons r rest => simpa [LookupUnit.withdraw, hq, front r (by rw [hq]; rfl)] using h

theorem LookupUnit.foldl_withdraw_zero (l : LaneId) (ns : List Nat) (u : LookupUnit)
    (h : u.passCount = 0) : (ns.foldl (fun u n => u.withdraw l n) u).passCount = 0 := by
  induction ns generalizing u with
  | nil => exact h
  | cons n ns ih => exact ih _ ((show ite _ 0 u.passCount = 0 by rw [h, ite_self]))

theorem LookupUnit.foldl_withdraw_queued (l : LaneId) (u : LookupUnit) :
    (u.queuedOf l).foldl (fun u n => u.withdraw l n) u = { u with
      queue := u.queue.filter (fun r => !r.ofLane l)
      passCount := if u.queue.head?.any (fun r => r.ofLane l) then 0 else u.passCount } := by
  obtain ⟨pass, h⟩ := LookupUnit.foldl_withdraw_rest l (u.queuedOf l) u
  have pass_eq : pass = if u.queue.head?.any (fun r => r.ofLane l) then 0 else u.passCount := by
    rw [show pass = ((u.queuedOf l).foldl (fun u n => u.withdraw l n) u).passCount by rw [h]]
    split
    · next front =>
      obtain ⟨r, hr, hl⟩ := (Option.any_eq_true _ _).1 front
      obtain ⟨n, hn⟩ := LookupRequest.ofLane_iff.1 hl
      obtain ⟨rest, hq⟩ := List.head?_eq_some_iff.1 hr
      obtain ⟨ns, first⟩ : ∃ ns, u.queuedOf l = n :: ns := by
        rw [LookupUnit.queuedOf, hq, List.filterMap_cons]
        simp [hn]
      rw [first, List.foldl_cons]
      exact LookupUnit.foldl_withdraw_zero l _ _ (if_pos (by rw [hr, Option.map_some, hn]))
    · next front => exact LookupUnit.foldl_withdraw_behind l _ u (by simpa using front)
  rw [h, pass_eq]
  congr 1
  refine List.filter_congr fun r hr => ?_
  rw [Bool.eq_iff_iff, Bool.not_eq_true', Bool.eq_false_iff, Ne, LookupRequest.ofLane_iff]
  simp only [decide_eq_true_eq, not_exists]
  exact ⟨fun h n hn => h n (LookupUnit.mem_queuedOf.2 ⟨r, hr, hn⟩) hn, fun h n _ => h n⟩

end Sys2Proof.Machine
end

section
/-! SUPPORT. O12: what entering FAULTED does, and the two timers (R12, R14, R17, R126). -/

namespace Sys2Proof.Machine

theorem LookupRequest.requester_of_other {r : LookupRequest} {l : LaneId} (h : r.ofLane l = false) :
    (∃ l' n, r.requester = .piece l' n ∧ l' ≠ l) ∨ ∃ tag, r.requester = .query tag := by
  cases hw : r.requester with
  | piece l' n =>
    exact .inl ⟨l', n, rfl, fun hl => Bool.eq_false_iff.1 h (LookupRequest.ofLane_iff.2 ⟨n, hl ▸ hw⟩)⟩
  | query tag => exact .inr ⟨tag, rfl⟩

/-- The slots of the records of a lane's queued requests, in queue order. -/
theorem Lane.slotsOf_queued (L : Lane) (l : LaneId) (u : LookupUnit) (gone : LookupRequest → Option Piece)
    (hl : ∀ r n, r.requester = .piece l n → gone r = L.piece n)
    (ho : ∀ r, r.ofLane l = false → gone r = none) :
    L.slotsOf (u.queuedOf l) = (u.queue.filterMap gone).map Piece.slot := by
  rw [Lane.slotsOf, LookupUnit.queuedOf, List.filterMap_filterMap, List.map_filterMap]
  congr 1
  funext r
  cases hr : r.ofLane l with
  | true =>
    obtain ⟨n, hn⟩ := LookupRequest.ofLane_iff.1 hr
    simp [hl r n hn, hn]
  | false =>
    rw [ho r hr]
    obtain ⟨l', n, hw, other⟩ | ⟨tag, hw⟩ := LookupRequest.requester_of_other hr
    · simp [hw, other]
    · simp [hw]

theorem State.enterFaulted_eq (s : State) (l : LaneId) (c : FaultCause) :
    s.enterFaulted l c = ((s.modLane l (fun L => L.fault c)).withdrawPieces l
      (s.lookup.queuedOf l)).raise (.laneState l .faulted c.notice) := by
  rw [State.enterFaulted, State.withdrawLane_eq, State.lookup_modLane]

theorem LookupUnit.queued_any {u : LookupUnit} {l : LaneId} {n : Nat} :
    n ∈ u.queuedOf l ↔ u.queue.any (fun r => r.requester = .piece l n) = true := by
  rw [LookupUnit.mem_queuedOf]
  simp

/-- Settles O12: the lane, its records, the queue and the references after entry into FAULTED, and the
two timers. -/
theorem faultEntryAndTimers : Obligations.FaultEntryAndTimers := by
  refine ⟨fun l c s ofLane gone hof hgone =>
    ⟨(s.modLane l (fun L => L.fault c)).withdrawPieces l (s.lookup.queuedOf l),
      s.enterFaulted_eq l c, ?_, ?_, fun l' hl' => ?_, ?_, ?_⟩,
    fun l s hs => ⟨fun hst ht => ?_, fun h => ?_, fun hst ht => ?_, fun h => ?_⟩⟩
  · rw [State.lane_withdrawPieces, State.lane_modLane, if_pos rfl]
    rfl
  · rw [State.lane_withdrawPieces, State.lane_modLane, if_pos rfl]
    simp only [LookupUnit.queued_any]
    rfl
  · rw [State.withdrawPieces, ← State.lookup_modLane s l fun L => L.fault c]
    exact (State.withdrawLane_other _ _ _ hl').trans (by rw [State.lane_modLane, if_neg hl'])
  · have same : ofLane = fun r => r.ofLane l :=
      funext fun r => Bool.eq_iff_iff.2 ((hof r).trans LookupRequest.ofLane_iff.symm)
    rw [State.lookup_withdrawPieces, State.lookup_modLane, LookupUnit.foldl_withdraw_queued, same]
  · have slots : ((s.modLane l fun L => L.fault c).lane l).slotsOf (s.lookup.queuedOf l) =
        gone.map Piece.slot := by
      rw [State.lane_modLane, if_pos rfl, hgone]
      refine Lane.slotsOf_queued _ l _ _ (fun r n hr => by simp only [hr, if_true]; rfl) fun r hr => ?_
      obtain ⟨l', n, hw, other⟩ | ⟨tag, hw⟩ := LookupRequest.requester_of_other hr
      · simp only [hw, if_neg other]
      · simp only [hw]
    have faulted : s.SameRefs (s.modLane l fun L => L.fault c) :=
      ⟨fun k => State.slot_modLane .., State.link_modLane ..⟩
    have refs := State.refs_withdrawPieces l (s.lookup.queuedOf l) (s.modLane l fun L => L.fault c)
    rw [slots] at refs
    have all := (faulted.releaseAll (gone.map Piece.slot)).trans refs
    rw [List.foldl_map] at all
    have queued : (s.modLane l fun L => L.fault c).lookup.queuedOf l = s.lookup.queuedOf l := by
      rw [State.lookup_modLane]
    have frame := (s.modLane_frame l fun L => L.fault c).trans
      (State.withdrawLane_frame (s.modLane l fun L => L.fault c) l)
    have dispositions := State.withdrawLane_dispositions (s.modLane l fun L => L.fault c) l
    rw [State.withdrawLane_eq, queued] at frame dispositions
    rw [State.link_modLane] at dispositions
    exact ⟨all.1, all.2, dispositions, frame.responses, frame.hot, frame.dir, frame.checker⟩
  · have expired : s.startExpires l = s.enterFaulted l .startTimeout := if_pos ⟨hst, ht⟩
    exact ((s.startExpires_frame l).event hs).trans (by rw [expired])
  · have other : s.startExpires l = s := if_neg fun ⟨hst, ht⟩ => by simp_all
    exact ((s.startExpires_frame l).event hs).trans (by rw [other])
  · have expired : s.drainExpires l = s.enterFaulted l .drainTimeout := if_pos ⟨hst, ht⟩
    exact ((s.drainExpires_frame l).event hs).trans (by rw [expired])
  · have other : s.drainExpires l = s := if_neg fun ⟨hst, ht⟩ => by simp_all
    exact ((s.drainExpires_frame l).event hs).trans (by rw [other])

end Sys2Proof.Machine
end

section
/-! SUPPORT. O17: the leading edge (R21, R25, R26, R27). -/

namespace Sys2Proof.Machine

theorem LaneState.takes_iff {st : LaneState} :
    st.takes = true ↔ st = .starting ∨ st = .running ∨ st = .draining := by
  cases st <;> simp [LaneState.takes]

theorem LaneState.not_takes_iff {st : LaneState} :
    st.takes = false ↔ st = .stopped ∨ st = .faulted := by
  cases st <;> simp [LaneState.takes]

/-- The not-ready mark of a record opened on a lane that takes letters (R25). -/
theorem LaneState.notReady_of_takes {st : LaneState} (h : st.takes = true) :
    (decide (st = .starting) || decide (st = .draining)) = decide (st ≠ .running) := by
  obtain h | h | h := LaneState.takes_iff.1 h <;> simp [h]

theorem State.activeSlot_setLane (s : State) (l : LaneId) (x : Lane) :
    (s.setLane l x).activeSlot = s.activeSlot := by
  rw [State.activeSlot, State.slot0_setLane, State.slot1_setLane]
  rfl

section
variable {s : State} {l : LaneId} {k : SlotId}

theorem State.leadingEdge_of_room (ht : (s.lane l).state.takes = true)
    (hroom : (s.lane l).track.length < 64) : s.leadingEdge l k =
      (s.modLane l (fun L => L.openPiece (L.newPiece k (s.slot k).settings.label))).takeRef k := by
  rw [State.leadingEdge, if_pos ht, if_neg (show ¬ Config.trackCapacity ≤ _ from not_le.2 hroom)]

theorem State.leadingEdge_of_full (ht : (s.lane l).state.takes = true)
    (hfull : 64 ≤ (s.lane l).track.length) : s.leadingEdge l k = s.enterFaulted l .trackFull := by
  rw [State.leadingEdge, if_pos ht, if_pos (show Config.trackCapacity ≤ _ from hfull)]
  exact State.faultReport_of_active _ (LaneState.takes_iff.1 ht)

theorem State.leadingEdge_of_closed (ht : (s.lane l).state.takes = false) : s.leadingEdge l k =
    s.countLane l (fun c => { c with entriesStopped := c.entriesStopped + 1 }) := by
  rw [State.leadingEdge, if_neg (by simp [ht])]

/-- Without a record to stamp, the outcome does not depend on the ACTIVE slot. -/
theorem State.takeLeadingEdge_of_none (hb : s.link.buffer = [])
    (h : (s.lane l).state.takes = false ∨ 64 ≤ (s.lane l).track.length) :
    ∃ k, s.takeLeadingEdge l = .next (s.leadingEdge l k).transmit := by
  have quiet : ∀ k, (s.leadingEdge l k).settle = (s.leadingEdge l k).transmit := fun k =>
    State.settle_of_buffer_nil ((s.leadingEdge_frame l k).buffer.trans hb)
  have none_opened : ¬ ((s.lane l).state.takes = true ∧
      (s.lane l).track.length < Config.trackCapacity) := fun ⟨ht, hroom⟩ => by
    obtain h | h := h
    · simp [h] at ht
    · exact absurd hroom (not_lt.2 h)
  rw [State.takeLeadingEdge]
  cases s.activeSlot with
  | some k => exact ⟨k, by rw [← quiet]⟩
  | none => exact ⟨.slot0, by rw [if_neg none_opened, quiet]⟩

end

theorem exec_leadingEdge {s : State} (l : LaneId) (hreset : s.resetLine = false) :
    exec (.leadingEdge l) s =
      (s.setLane l { s.lane l with entryLine := true }).takeLeadingEdge l := by
  rw [show exec (.leadingEdge l) s = execLeadingEdge l s from rfl, execLeadingEdge,
    if_neg (by simp [hreset])]
  rfl

/-- Settles O17: the record a leading edge opens, and the edges that open none. -/
theorem leadingEdgeOpensRecordOrNone : Obligations.LeadingEdgeOpensRecordOrNone := by
  refine ⟨fun l k s hs hk hst hroom => ?_, fun l s hs => ⟨fun hst => ?_, fun hst hfull => ?_⟩,
    fun l s hreset hk hst hroom => ?_⟩
  · have ht : (s.lane l).state.takes = true := LaneState.takes_iff.2 hst
    rw [exec_leadingEdge l hs.1, State.takeLeadingEdge, State.activeSlot_setLane, hk]
    simp only
    rw [State.settle_of_buffer_nil, State.leadingEdge_of_room (by simpa using ht) (by simpa using hroom)]
    · simp only [State.modLane, State.lane_setLane, if_true, State.setLane_setLane, State.slot_setLane,
        Lane.openPiece, Lane.newPiece, LaneState.notReady_of_takes ht]
      rfl
    · exact (State.leadingEdge_frame _ l k).buffer.trans (by simpa using hs.2)
  · rw [exec_leadingEdge l hs.1]
    obtain ⟨k, h⟩ := State.takeLeadingEdge_of_none (s := s.setLane l { s.lane l with entryLine := true })
      (l := l) (by simpa using hs.2) (.inl (by simpa using LaneState.not_takes_iff.2 hst))
    rw [h, State.leadingEdge_of_closed (by simpa using LaneState.not_takes_iff.2 hst), State.countLane,
      State.modLane, State.setLane_setLane, State.lane_setLane, if_pos rfl]
  · rw [exec_leadingEdge l hs.1]
    obtain ⟨k, h⟩ := State.takeLeadingEdge_of_none (s := s.setLane l { s.lane l with entryLine := true })
      (l := l) (by simpa using hs.2) (.inr (by simpa using hfull))
    rw [h, State.leadingEdge_of_full (by simpa using LaneState.takes_iff.2 hst) (by simpa using hfull)]
  · rw [exec_leadingEdge l hreset, State.takeLeadingEdge, State.activeSlot_setLane, hk]
    refine if_pos ?_
    simpa using ⟨LaneState.takes_iff.2 hst, hroom⟩

end Sys2Proof.Machine
end

section
/-! SUPPORT. O19 and O20: the trail of a record (R28 to R31), and the position events that are not
taken (R4, R39). -/

namespace Sys2Proof.Machine

/-! ### The trailing edge -/

theorem exec_trailingEdge {s : State} (hs : s.Quiet) (l : LaneId) : exec (.trailingEdge l) s =
    .next ((s.setLane l { s.lane l with entryLine := false }).trailingEdge l).transmit := by
  rw [show exec (.trailingEdge l) s = execTrailingEdge l s from rfl, execTrailingEdge,
    if_neg (by simp [hs.1]), State.settle_of_buffer_nil]
  · rfl
  · exact (State.trailingEdge_frame _ l).buffer.trans (by simpa [State.setEntry] using hs.2)

theorem Lane.entering_of_first {L : Lane} {before after : List Piece} {p : Piece}
    (htrack : L.track = before ++ p :: after) (hp : p.stage = .entering)
    (hbefore : ∀ q ∈ before, q.stage ≠ .entering) : L.entering = some p := by
  rw [Lane.entering, htrack]
  exact find?_append_cons (by simpa using hp) fun q hq => by simpa using hbefore q hq

section
variable {s : State} {l : LaneId} {p : Piece}

theorem State.trailingEdge_of_none
    (h : (s.lane l).state = .faulted ∨ ∀ p ∈ (s.lane l).track, p.stage ≠ .entering) :
    s.trailingEdge l = s := by
  rw [State.trailingEdge]
  obtain h | h := h
  · rw [if_pos h]
  · have none_entering : (s.lane l).entering = none :=
      List.find?_eq_none.2 fun p hp => by simpa using h p hp
    simp only [none_entering, ite_self]

theorem State.trailingEdge_of_flutter (hl : (s.lane l).state ≠ .faulted)
    (he : (s.lane l).entering = some p)
    (hshort : fwd p.lead (s.lane l).pos < (s.lane l).constants.lengthMin) :
    s.trailingEdge l = ((s.setLane l { (s.lane l).removePiece p.number with
      counters := { (s.lane l).counters with flutters := (s.lane l).counters.flutters + 1 } }).releaseRef
        p.slot).reportEmpty l := by
  rw [State.trailingEdge, if_neg hl]
  simp only [he, if_pos hshort, State.countLane, State.modLane, State.releaseRef_setLane,
    State.lane_setLane, State.setLane_setLane, if_true]
  rfl

theorem State.trailingEdge_of_trail (hl : (s.lane l).state ≠ .faulted)
    (he : (s.lane l).entering = some p)
    (hlong : (s.lane l).constants.lengthMin ≤ fwd p.lead (s.lane l).pos) :
    s.trailingEdge l = (s.modLane l (fun L => L.setTrail p)).deriveBins l (s.lane l) := by
  rw [State.trailingEdge, if_neg hl]
  simp only [he, if_neg (not_lt.2 hlong)]

end

/-- Settles O19: the trailing edge and the forced trail. -/
theorem trailIsSet : Obligations.TrailIsSet := by
  refine ⟨fun l s hs => ⟨fun h => ?_, fun before p after htrack hp hbefore hl =>
    ⟨fun hshort => ?_, fun hlong => ⟨_, rfl, ?_⟩⟩⟩, fun l n p s hs hp hl hdue =>
    ⟨fun hst => ⟨_, rfl, ?_⟩, fun hst => ?_⟩⟩
  · rw [exec_trailingEdge hs, State.trailingEdge_of_none (by simpa using h)]
  · rw [exec_trailingEdge hs, State.trailingEdge_of_flutter (p := p)]
    · simp only [State.lane_setLane, State.setLane_setLane, if_true]
      rfl
    · simpa using hl
    · rw [State.lane_setLane, if_pos rfl]
      exact Lane.entering_of_first htrack hp hbefore
    · simpa using hshort
  · rw [exec_trailingEdge hs, State.trailingEdge_of_trail (p := p)]
    · simp only [State.modLane, State.lane_setLane, if_true]
      rfl
    · simpa using hl
    · rw [State.lane_setLane, if_pos rfl]
      exact Lane.entering_of_first htrack hp hbefore
    · simpa using hlong
  · have forced : s.forcedTrail l n =
        (s.modLane l (fun L => L.forceTrail p)).deriveBins l (s.lane l) := by
      rw [State.forcedTrail, if_neg hl]
      simp only [hp, if_pos hdue, if_pos hst]
    exact ((s.forcedTrail_frame l n).event hs).trans (by rw [forced]; rfl)
  · have past : s.forcedTrail l n = s.modPiece l n (fun q => { q with forcedTrailAt := none }) := by
      rw [State.forcedTrail, if_neg hl]
      simp only [hp, if_pos hdue, if_neg hst]
    exact ((s.forcedTrail_frame l n).event hs).trans (by rw [past])

/-! ### Position events that are not taken -/

theorem due_iff {q : Option Position} {p : Position} :
    due q p = true ↔ ∃ q', q = some q' ∧ fwd q' p ≤ 8388607 := by
  cases q <;> simp [due, reached]

theorem Lane.piece_eq_some_iff {L : Lane} {n : Nat} {p : Piece} : L.piece n = some p ↔
    ∃ before after, L.track = before ++ p :: after ∧ p.number = n ∧ ∀ q ∈ before, q.number ≠ n := by
  simp only [Lane.piece, List.find?_eq_some_iff_append, decide_eq_true_eq, Bool.not_eq_true',
    decide_eq_false_iff_not]
  constructor
  · rintro ⟨hn, before, after, htrack, hbefore⟩
    exact ⟨before, after, htrack, hn, hbefore⟩
  · rintro ⟨before, after, htrack, hn, hbefore⟩
    exact ⟨hn, before, after, htrack, hbefore⟩

theorem Lane.piece_eq_none_iff {L : Lane} {n : Nat} :
    L.piece n = none ↔ ∀ q ∈ L.track, q.number ≠ n := by
  simp [Lane.piece]

/-- The lane takes no event of the record with the number, scheduled at the given position of it. -/
def Lane.Idle (L : Lane) (n : Nat) (scheduled : Piece → Option Position) : Prop :=
  L.state = .faulted ∨ L.piece n = none ∨
    ∃ p, L.piece n = some p ∧ due (scheduled p) L.pos = false

section
variable {s : State} {l : LaneId} {n : Nat}

theorem State.forcedTrail_of_idle (h : (s.lane l).Idle n Piece.forcedTrailAt) :
    s.forcedTrail l n = s := by
  rw [State.forcedTrail]
  obtain h | h | ⟨p, hp, hd⟩ := h
  · rw [if_pos h]
  · simp only [h, ite_self]
  · simp only [hp, hd, Bool.false_eq_true, if_false, ite_self]

theorem State.readClose_of_idle (h : (s.lane l).Idle n Piece.readCloseAt) : s.readClose l n = s := by
  rw [State.readClose]
  obtain h | h | ⟨p, hp, hd⟩ := h
  · rw [if_pos h]
  · simp only [h, ite_self]
  · simp only [hp, hd, Bool.false_eq_true, if_false, ite_self]

theorem State.lastChance_of_idle (h : (s.lane l).Idle n Piece.lastChanceAt) :
    s.lastChance l n = s := by
  rw [State.lastChance]
  obtain h | h | ⟨p, hp, hd⟩ := h
  · rw [if_pos h]
  · simp only [h, ite_self]
  · simp only [hp, hd, Bool.false_eq_true, if_false, ite_self]

theorem State.windowClose_of_idle (h : (s.lane l).Idle n fun p => p.window.map Window.closes) :
    s.windowClose l n = s := by
  rw [State.windowClose]
  obtain h | h | ⟨p, hp, hd⟩ := h
  · rw [if_pos h]
  · simp only [h, ite_self]
  · simp only [hp]
    cases hg : p.gate with
    | none => simp only [ite_self]
    | some g =>
      cases hw : p.window with
      | none => simp only [ite_self]
      | some w =>
        have early : reached w.closes (s.lane l).pos = false := by simpa [hw, due] using hd
        simp only [early, Bool.false_eq_true, and_false, if_false, ite_self]

theorem State.runoutWindowClose_of_idle
    (h : (s.lane l).Idle n fun p => p.window.map Window.closes) : s.runoutWindowClose l n = s := by
  rw [State.runoutWindowClose]
  obtain h | h | ⟨p, hp, hd⟩ := h
  · rw [if_pos h]
  · simp only [h, ite_self]
  · simp only [hp]
    cases hw : p.window with
    | none => simp only [ite_self]
    | some w =>
      have early : reached w.closes (s.lane l).pos = false := by simpa [hw, due] using hd
      simp only [early, Bool.false_eq_true, and_false, if_false, ite_self]

end

theorem Lane.fire_of_idle {L : Lane} {l : LaneId} {n : Nat}
    (h : L.state = .faulted ∨ L.piece n = none ∨
      ∃ p, L.piece n = some p ∧ (p.route ≠ .armed ∨ due p.fireAt L.pos = false)) :
    L.fire l n = L := by
  rw [Lane.fire]
  obtain h | h | ⟨p, hp, hd⟩ := h
  · rw [if_pos h]
  · simp only [h, ite_self]
  · have early : ¬ (p.route = .armed ∧ due p.fireAt L.pos = true) := by
      rw [← Bool.not_eq_true] at hd
      tauto
    simp only [hp, early, if_false, ite_self]

theorem Lane.release_of_idle {L : Lane} {g : Gate} {n : Nat}
    (h : L.state = .faulted ∨
      ∀ h ∈ L.holds[g.val], h.piece = n → reached h.releaseAt L.pos = false) :
    L.release g n = L := by
  rw [Lane.release]
  obtain h | h := h
  · rw [if_pos h]
  · have none_due : (L.holds[g.val]).find? (fun h => h.piece = n && reached h.releaseAt L.pos) = none :=
      List.find?_eq_none.2 fun x hx => by simpa using h x hx
    simp only [none_due, ite_self]

/-- Settles O20: an event is due by R4, records are told by number, and an event out of place changes
nothing. -/
theorem positionEventsOnlyWhenDue : Obligations.PositionEventsOnlyWhenDue := by
  refine ⟨fun q p => due_iff, fun L n f => ⟨fun p => Lane.piece_eq_some_iff, Lane.piece_eq_none_iff,
    rfl⟩, fun l n s hs => ⟨fun h => ?_, fun h => ?_, fun h => ?_, fun h => ?_, fun g h => ?_,
    fun h => ⟨?_, ?_⟩⟩⟩
  · exact ((s.forcedTrail_frame l n).event hs).trans (by rw [State.forcedTrail_of_idle h])
  · exact ((s.readClose_frame l n).event hs).trans (by rw [State.readClose_of_idle h])
  · exact ((s.lastChance_frame l n).event hs).trans (by rw [State.lastChance_of_idle h])
  · exact (State.unlessReset_of_not hs.1).trans
      (by rw [State.modLane, Lane.fire_of_idle h, State.setLane_self])
  · exact (State.unlessReset_of_not hs.1).trans
      (by rw [State.modLane, Lane.release_of_idle h, State.setLane_self])
  · exact ((s.windowClose_frame l n).event hs).trans (by rw [State.windowClose_of_idle h])
  · exact ((s.runoutWindowClose_frame l n).event hs).trans (by rw [State.runoutWindowClose_of_idle h])

end Sys2Proof.Machine
end

section
/-! SUPPORT. O21 and O22: read close (R32, R33, R52, R61, R114) and last chance (R34, R35, R126). -/

namespace Sys2Proof.Machine

/-! ### The record at read close -/

theorem Lane.captureAtTrail_keeps (L : Lane) (p : Piece) :
    (L.captureAtTrail p).number = p.number ∧ (L.captureAtTrail p).overlong = p.overlong := by
  unfold Lane.captureAtTrail
  split
  · split <;> exact ⟨rfl, rfl⟩
  · exact ⟨rfl, rfl⟩

/-- The record as the forced trail leaves it before the capture check (R31). -/
def Lane.withForcedTrail (L : Lane) (p : Piece) : Piece := { p with
  trail := some (ahead p.lead L.constants.lengthMax)
  length := some L.constants.lengthMax
  overlong := true
  stage := .reading
  forcedTrailAt := none }

/-- The record whose trail has been forced is overlong (R31). -/
theorem Lane.piece_forceTrail {L : Lane} {n : Nat} {p : Piece} (hp : L.piece n = some p) :
    ∃ q, (L.forceTrail p).piece n = some q ∧ q.number = n ∧ q.overlong = true := by
  obtain rfl := Lane.number_of_piece hp
  have written := Lane.piece_modPiece (fun _ => L.withForcedTrail p) hp rfl
  obtain ⟨number, overlong⟩ := Lane.captureAtTrail_keeps
    (L.modPiece p.number fun _ => L.withForcedTrail p) (L.withForcedTrail p)
  exact ⟨_, Lane.piece_modPiece _ written number, number, overlong⟩

/-- The lane at read close of the record: event taken off, outcome and key written (R32, R52). -/
def Lane.closed (L : Lane) (p : Piece) (fs : List FormatEntry) : Lane :=
  (L.closeRead p).modPiece p.number (fun x => x.resolve fs)

theorem Lane.closed_of_entering {L : Lane} {p : Piece} (fs : List FormatEntry)
    (hst : p.stage = .entering) : L.closed p fs = ((L.forceTrail p).modPiece p.number
      (fun x => { x with readCloseAt := none })).modPiece p.number (fun x => x.resolve fs) := by
  rw [Lane.closed, Lane.closeRead, if_pos hst]

theorem Lane.closed_of_past {L : Lane} {p : Piece} (fs : List FormatEntry)
    (hst : p.stage ≠ .entering) : L.closed p fs =
      (L.modPiece p.number (fun x => { x with readCloseAt := none })).modPiece p.number
        (fun x => x.resolve fs) := by
  rw [Lane.closed, Lane.closeRead, if_neg hst]

section
variable {s : State} {l : LaneId} {n : Nat} {p q : Piece}
  (hl : (s.lane l).state ≠ .faulted) (hp : (s.lane l).piece n = some p)
  (hdue : due p.readCloseAt (s.lane l).pos = true)
  (hq : ((s.lane l).closed p (s.slot p.slot).formats).piece n = some q)
include hl hp hdue hq

theorem State.readClose_of_service {c : Nat}
    (hc : serviceClass q.overlong q.notReady (q.outcome.getD .noread) = some c) :
    s.readClose l n = (s.modLane l fun L => L.closed p (s.slot p.slot).formats).decideService l n c
      (s.lane l) := by
  obtain rfl := Lane.number_of_piece hp
  rw [Lane.closed] at hq
  rw [State.readClose, if_neg hl]
  simp only [hp, if_pos hdue, State.modPiece, State.modLane_modLane, State.lane_modLane, if_true, hq, hc]
  rfl

theorem State.readClose_of_key {key : Key}
    (hc : serviceClass q.overlong q.notReady (q.outcome.getD .noread) = none)
    (hk : q.key = some key) :
    s.readClose l n = (s.modLane l fun L => L.closed p (s.slot p.slot).formats).offerLookup l q key
      (s.lane l) := by
  obtain rfl := Lane.number_of_piece hp
  rw [Lane.closed] at hq
  rw [State.readClose, if_neg hl]
  simp only [hp, if_pos hdue, State.modPiece, State.modLane_modLane, State.lane_modLane, if_true, hq, hc,
    hk]
  rfl

end

section
variable {s : State} (l : LaneId) (q : Piece) (key : Key) (before : Lane)

theorem State.offerLookup_of_room (h : s.lookup.queue.length < 8) :
    s.offerLookup l q key before = (({ s with
      lookup := s.lookup.join (.piece l q.number) key.account key.doctype q.slot }.modPiece l q.number
        (fun x => { x with lookup := .queued, stage := .deciding })).grant).deriveBins l before :=
  if_pos h

theorem State.offerLookup_of_full (h : 8 ≤ s.lookup.queue.length) :
    s.offerLookup l q key before = (s.countLane l (fun c => { c with
      overloads := c.overloads + 1 })).decideService l q.number 5 before :=
  if_neg (not_lt.2 h)

end

/-- Settles O21: the class, the queued request or the overload at read close. -/
theorem readCloseResolves : Obligations.ReadCloseResolves := by
  refine ⟨fun l n p s v hs hp hl hdue hst hv => ?_, fun l n p q s v hs hp hl hdue hst hq hv => ?_⟩
  · obtain rfl := Lane.number_of_piece hp
    obtain ⟨q, hq, number, overlong⟩ := Lane.piece_forceTrail hp
    have found := Lane.piece_modPiece (fun x => x.resolve (s.slot p.slot).formats)
      (Lane.piece_modPiece (fun x => { x with readCloseAt := none }) hq number) number
    rw [← Lane.closed_of_entering _ hst] at found
    simp only [← Lane.closed_of_entering _ hst] at hv
    have class7 := State.readClose_of_service (c := 7) hl hp hdue found
      (by simp [Piece.resolve, serviceClass, overlong])
    exact ((s.readClose_frame l p.number).event hs).trans (by rw [class7, hv, State.decideService])
  · obtain rfl := Lane.number_of_piece hp
    have found : ((s.lane l).closed p (s.slot p.slot).formats).piece p.number = some q := by
      rw [Lane.closed_of_past _ hst, hq]
      exact Lane.piece_modPiece (fun x => x.resolve (s.slot p.slot).formats)
        (Lane.piece_modPiece (fun x => { x with readCloseAt := none }) hp rfl) rfl
    simp only [← Lane.closed_of_past _ hst] at hv
    have overlong : q.overlong = p.overlong := by rw [hq]
    have notReady : q.notReady = p.notReady := by rw [hq]
    have outcome : q.outcome.getD .noread = readOutcome (s.slot p.slot).formats p.reports := by rw [hq]; rfl
    have number : q.number = p.number := by rw [hq]
    have slot : q.slot = p.slot := by rw [hq]
    rw [← overlong, ← notReady, ← outcome]
    have lookup : v.lookup = s.lookup := by rw [hv, State.lookup_modLane]
    refine ⟨by rw [hv, State.lane_modLane, if_pos rfl, found], fun c hc => ?_, fun key hc hk =>
      ⟨fun hroom => ?_, fun hfull => ?_⟩⟩
    · have service := State.readClose_of_service hl hp hdue found hc
      exact ((s.readClose_frame l p.number).event hs).trans
        (by rw [service, hv, State.decideService])
    · have offered := State.readClose_of_key hl hp hdue found hc hk
      rw [← hv, State.offerLookup_of_room _ _ _ _ (by rw [lookup]; exact hroom), lookup, number, slot]
        at offered
      exact ((s.readClose_frame l p.number).event hs).trans (by rw [offered]; rfl)
    · have offered := State.readClose_of_key hl hp hdue found hc hk
      rw [← hv, State.offerLookup_of_full _ _ _ _ (by rw [lookup]; exact hfull), number] at offered
      exact ((s.readClose_frame l p.number).event hs).trans (by rw [offered, State.decideService])

/-! ### Last chance -/

section
variable {s : State} {l : LaneId} {n : Nat} {p : Piece}
  (hl : (s.lane l).state ≠ .faulted) (hp : (s.lane l).piece n = some p)
  (hdue : due p.lastChanceAt (s.lane l).pos = true)
include hl hp hdue

theorem State.lastChance_of_decided (hst : p.stage = .decided) :
    s.lastChance l n = s.modPiece l n (fun q => { q with lastChanceAt := none }) := by
  rw [State.lastChance, if_neg hl]
  simp only [hp, if_pos hdue, hst]

theorem State.lastChance_of_early (hst : p.stage = .entering ∨ p.stage = .reading) :
    s.lastChance l n = s := by
  rw [State.lastChance, if_neg hl]
  obtain hst | hst := hst <;> simp only [hp, if_pos hdue, hst]

theorem State.lastChance_of_queued (hst : p.stage = .deciding) (hq : p.lookup = .queued) :
    s.lastChance l n = ((s.modPiece l n (fun q => { q with lastChanceAt := none })).withdrawDecided l
      p).modLane l (fun L => L.lateFinal n) := by
  rw [State.lastChance, if_neg hl]
  simp only [hp, if_pos hdue, hst, if_pos hq]

theorem State.lastChance_of_under_way (hst : p.stage = .deciding) (hq : p.lookup ≠ .queued) :
    s.lastChance l n = (s.modPiece l n (fun q => { q with lastChanceAt := none })).modLane l
      (fun L => L.lateFinal n) := by
  rw [State.lastChance, if_neg hl]
  simp only [hp, if_pos hdue, hst, if_neg hq]

end

/-- Settles O22: last chance by the record's stage and lookup state. -/
theorem lastChanceSendsToRunout : Obligations.LastChanceSendsToRunout := by
  intro l n p s v hs hp hl hdue hv
  have taken := (s.lastChance_frame l n).event hs
  have lookup : v.lookup = s.lookup := by rw [hv, State.modPiece, State.lookup_modLane]
  have constants : (v.lane l).constants = (s.lane l).constants := by
    rw [hv, State.modPiece, State.lane_modLane, if_pos rfl]
    rfl
  refine ⟨fun hst => ?_, fun hst => ?_, fun hst hq => ?_, fun hst hq => ?_⟩
  · exact taken.trans (by rw [State.lastChance_of_decided hl hp hdue hst, hv])
  · exact taken.trans (by rw [State.lastChance_of_early hl hp hdue hst])
  · refine taken.trans ?_
    rw [State.lastChance_of_under_way hl hp hdue hst hq, ← hv, ← constants]
    rfl
  · refine taken.trans ?_
    rw [State.lastChance_of_queued hl hp hdue hst hq, ← hv, State.withdrawDecided, lookup]
    rfl

end Sys2Proof.Machine
end

section
/-! SUPPORT. O27: a lane's scan report (R44 to R49). -/

namespace Sys2Proof.Machine

/-! ### Digit characters (R46) -/

/-- The character of a digit. -/
def digitByte (d : Digit) : Byte := BitVec.ofNat 8 (0x30 + d.val)

theorem digitOf_eq_some_iff {b : Byte} {d : Digit} : digitOf b = some d ↔ b = digitByte d := by
  have range : (digitByte d).toNat = 0x30 + d.val := by
    have := d.isLt
    rw [digitByte, BitVec.toNat_ofNat]
    omega
  unfold digitOf
  constructor
  · intro h
    split at h
    · next hb =>
      obtain rfl := Option.some.inj h
      refine BitVec.eq_of_toNat_eq ?_
      rw [range]
      dsimp only
      omega
    · exact nomatch h
  · rintro rfl
    have := d.isLt
    rw [dif_pos (by omega)]
    simp only [range, Nat.add_sub_cancel_left]

theorem mapM_digitOf_eq_some_iff {cs : Bytes} {ds : List Digit} :
    cs.mapM digitOf = some ds ↔ cs = ds.map digitByte := by
  induction cs generalizing ds with
  | nil => cases ds <;> simp
  | cons b bs ih =>
    rw [List.mapM_cons]
    cases ds with
    | nil => simp [Option.bind_eq_some_iff]
    | cons d ds => simp [Option.bind_eq_some_iff, digitOf_eq_some_iff, ih]

theorem goodDigits_eq_some_iff {cs : Bytes} {ds : List Digit} : goodDigits cs = some ds ↔
    1 ≤ cs.length ∧ cs.length ≤ 32 ∧ cs = ds.map digitByte := by
  rw [← mapM_digitOf_eq_some_iff, goodDigits, ← and_assoc]
  split
  · next h => exact (and_iff_right h).symm
  · next h => simp [h]

/-! ### The report taken (R45) -/

section
variable {L : Lane} {head : Nat} {stamp : Position} {result : Nat} {chars : Bytes}

theorem Lane.scanReport_of_refused
    (h : L.state = .stopped ∨ L.state = .faulted ∨ L.constants.headCount ≤ head ∨ 4 ≤ head) :
    L.scanReport head stamp result chars =
      { L with counters := { L.counters with discarded := L.counters.discarded + 1 } } := by
  rw [Lane.scanReport]
  by_cases hst : L.state = .stopped ∨ L.state = .faulted
  · rw [if_pos hst]
  · rw [if_neg hst, dif_neg (by rintro ⟨h4, hc⟩; rw [not_or] at hst; simp_all; omega)]

section
variable (h : HeadId) (hs : L.state ≠ .stopped) (hf : L.state ≠ .faulted)
  (hc : h.val < L.constants.headCount)
include hs hf hc

theorem Lane.scanReport_of_good {ds : List Digit} (hr : result = 1) (hd : goodDigits chars = some ds) :
    L.scanReport h.val stamp result chars = L.placeReport h ⟨stamp, some ds⟩ := by
  rw [Lane.scanReport, if_neg (by simp [hs, hf]), dif_pos ⟨h.isLt, hc⟩, if_pos hr]
  simp only [hd]

theorem Lane.scanReport_of_noread (hr : result = 2) :
    L.scanReport h.val stamp result chars = L.placeReport h ⟨stamp, none⟩ := by
  rw [Lane.scanReport, if_neg (by simp [hs, hf]), dif_pos ⟨h.isLt, hc⟩, if_neg (by omega), if_pos hr]

theorem Lane.scanReport_of_garbled
    (hr : (result ≠ 1 ∧ result ≠ 2) ∨ (result = 1 ∧ goodDigits chars = none)) :
    L.scanReport h.val stamp result chars =
      { L with counters := { L.counters with garbled := L.counters.garbled + 1 } }.placeReport h
        ⟨stamp, none⟩ := by
  rw [Lane.scanReport, if_neg (by simp [hs, hf]), dif_pos ⟨h.isLt, hc⟩]
  obtain ⟨h1, h2⟩ | ⟨h1, hd⟩ := hr
  · rw [if_neg h1, if_neg h2]
  · rw [if_pos h1]
    simp only [hd]

end

/-! ### The report placed (R47 to R49) -/

variable {h : HeadId} {r : Report} {p : Piece}

theorem Lane.placeReport_of_open
    (hp : L.candidate L.constants.headOffset[h.val] r.stamp = some p)
    (hst : p.stage = .entering ∨ p.stage = .reading) :
    L.placeReport h r = { L with
      track := L.track.map (fun q =>
        if q.number = p.number then { q with reports := q.reports.set h.val (some r) } else q)
      counters := { L.counters with
        replaced := L.counters.replaced + (if (p.reports[h.val]).isSome then 1 else 0) } } := by
  rw [Lane.placeReport, hp]
  simp only [if_pos hst]
  split
  · rfl
  · rw [show L.counters.replaced + 0 = L.counters.replaced from BitVec.add_zero _]
    rfl

theorem Lane.placeReport_of_late
    (hp : L.candidate L.constants.headOffset[h.val] r.stamp = some p)
    (hst : p.stage = .deciding ∨ p.stage = .decided) :
    L.placeReport h r = { L with counters := { L.counters with late := L.counters.late + 1 } } := by
  have past : ¬ (p.stage = .entering ∨ p.stage = .reading) := by
    obtain hst | hst := hst <;> simp [hst]
  rw [Lane.placeReport, hp]
  simp only [if_neg past]

theorem Lane.placeReport_of_orphan
    (hp : L.candidate L.constants.headOffset[h.val] r.stamp = none) :
    L.placeReport h r =
      { L with counters := { L.counters with orphan := L.counters.orphan + 1 } } := by
  rw [Lane.placeReport, hp]

end

/-- Settles O27: a scan report refused, read and placed. -/
theorem scanReportPlaced : Obligations.ScanReportPlaced := by
  refine ⟨fun chars ds => goodDigits_eq_some_iff, fun L head stamp result chars =>
    ⟨Lane.scanReport_of_refused, ?_, fun h r =>
      ⟨fun p hp => ⟨Lane.placeReport_of_open hp, Lane.placeReport_of_late hp⟩,
        Lane.placeReport_of_orphan⟩⟩⟩
  rintro h rfl hs hf hc
  exact ⟨fun ds => Lane.scanReport_of_good h hs hf hc, Lane.scanReport_of_noread h hs hf hc,
    Lane.scanReport_of_garbled h hs hf hc⟩

end Sys2Proof.Machine
end

section
/-! SUPPORT. O29: the entries the plan store keeps of list items (R65 to R69), and the loads
(R72 to R77). -/

namespace Sys2Proof.Machine

/-! ### Entries by their ranges -/

theorem rangeEntry_eq_some_iff {x : RangeItem} {e : RangeEntry} : rangeEntry x = some e ↔
    x.low ≤ 999999999999 ∧ x.high ≤ 999999999999 ∧ 8 ≤ x.cls ∧ x.cls ≤ 63 ∧
      e = ⟨x.low, x.high, x.cls⟩ := by
  rw [rangeEntry]
  simp only [isPlanClass_iff, Config.accountMax, Option.ite_none_right_eq_some, Option.some.injEq,
    and_assoc, eq_comm (a := e)]

theorem doctypeEntry_eq_some_iff {x : DoctypeItem} {e : DoctypeEntry} : doctypeEntry x = some e ↔
    x.doctype ≤ 999 ∧ 8 ≤ x.cls ∧ x.cls ≤ 63 ∧
      (x.strength = 1 ∧ e = ⟨x.doctype, x.cls, .strong⟩ ∨
        x.strength = 2 ∧ e = ⟨x.doctype, x.cls, .weak⟩) := by
  rw [doctypeEntry]
  simp only [isPlanClass_iff, Option.ite_none_right_eq_some, and_assoc]
  refine and_congr_right fun _ => and_congr_right fun _ => and_congr_right fun _ => ?_
  split
  · next h => simp [h, eq_comm]
  · next h => simp [h, eq_comm]
  · next h1 h2 => simp [show x.strength ≠ 1 from h1, show x.strength ≠ 2 from h2]

theorem prefixOf_eq_some_iff {x : FormatItem} {ds : List Digit} : prefixOf x = some ds ↔
    1 ≤ x.pfxCount ∧ x.pfxCount ≤ 4 ∧
      [x.pfx1, x.pfx2, x.pfx3, x.pfx4].take x.pfxCount = ds.map digitByte := by
  rw [prefixOf, Option.ite_none_right_eq_some, mapM_digitOf_eq_some_iff, and_assoc]

theorem schemeOf_eq_some_iff {n : Nat} {c : CheckScheme} : schemeOf n = some c ↔
    n = 1 ∧ c = .none ∨ n = 2 ∧ c = .mod10 ∨ n = 3 ∧ c = .mod11 := by
  unfold schemeOf
  split <;> simp_all [eq_comm]

theorem formatEntry_eq_some_iff {x : FormatItem} {e : FormatEntry} : formatEntry x = some e ↔
    ∃ ds c, prefixOf x = some ds ∧ schemeOf x.scheme = some c ∧
      (x.number ≤ 7 ∧ 6 ≤ x.codeLength ∧ x.codeLength ≤ 32 ∧ 1 ≤ x.accountStart ∧ x.accountStart ≤ 32 ∧
        1 ≤ x.accountLength ∧ x.accountLength ≤ 12 ∧ x.doctypeLength ≤ 3 ∧
        (x.doctypeLength = 0 ∨ (1 ≤ x.doctypeStart ∧ x.doctypeStart ≤ 32))) ∧
      e = ⟨x.number, ds, x.codeLength, x.accountStart, x.accountLength, x.doctypeStart,
        x.doctypeLength, c⟩ := by
  rw [formatEntry]
  cases hds : prefixOf x with
  | none => simp
  | some ds =>
    cases hc : schemeOf x.scheme with
    | none => simp
    | some c => simp only [Option.ite_none_right_eq_some, Option.some.injEq, exists_and_left,
        exists_eq_left', eq_comm (a := e)]

theorem laneBins_eq_some_iff {primary overflow : Nat} {b : LaneBins} :
    laneBins primary overflow = some b ↔ primary ≤ 12 ∧ ∃ o, b = ⟨primary, o⟩ ∧
      (overflow = 0xFF ∧ o = none ∨ 1 ≤ overflow ∧ overflow ≤ 12 ∧ o = some overflow) := by
  rw [laneBins, Option.ite_none_right_eq_some]
  refine and_congr_right fun _ => ?_
  by_cases hff : overflow = 0xFF
  · simp [hff, eq_comm]
  · rw [if_neg hff, Option.ite_none_right_eq_some, Option.some.injEq]
    simp only [hff, false_and, false_or]
    constructor
    · rintro ⟨⟨h1, h12⟩, rfl⟩
      exact ⟨_, rfl, h1, h12, rfl⟩
    · rintro ⟨o, rfl, h1, h12, rfl⟩
      exact ⟨⟨h1, h12⟩, rfl⟩

theorem classEntryOf_eq_some_iff {x : ClassItem} {c : Fin 64} {e : ClassEntry} :
    classEntryOf x = some (c, e) ↔ x.cls = c.val ∧
      (x.defined = 0 ∧ e = ClassEntry.undefined ∨ x.defined = 1 ∧ ∃ b0 b1,
        laneBins x.primary0 x.overflow0 = some b0 ∧ laneBins x.primary1 x.overflow1 = some b1 ∧
          e = ⟨true, b0, b1⟩) := by
  unfold classEntryOf
  by_cases h : x.cls < 64
  · have number : (⟨x.cls, h⟩ : Fin 64) = c ↔ x.cls = c.val := Fin.ext_iff
    rw [dif_pos h]
    split
    · next h0 => simp [h0, number, eq_comm (a := e)]
    · next h1 =>
      cases laneBins x.primary0 x.overflow0 with
      | none => simp [h1]
      | some b0 =>
        cases laneBins x.primary1 x.overflow1 with
        | none => simp [h1]
        | some b1 => simp [h1, number, eq_comm (a := e)]
    · next h0 h1 => simp [show x.defined ≠ 0 from h0, show x.defined ≠ 1 from h1]
  · have beyond : x.cls ≠ c.val := by
      have := c.isLt
      omega
    simp [h, beyond]

theorem applySetting_eq_some_iff {st st' : Settings} {x : SettingItem} (hx : x.value ≤ 65535) :
    applySetting st x = some st' ↔
      x.code = 1 ∧ 8 ≤ x.value ∧ x.value ≤ 63 ∧ st' = { st with defaultClass := x.value } ∨
      x.code = 2 ∧ (x.value = 1 ∧ st' = { st with serviceRouting := .builtIn } ∨
        x.value = 2 ∧ st' = { st with serviceRouting := .plan }) ∨
      x.code = 3 ∧ (x.value = 1 ∧ st' = { st with directoryUse := false } ∨
        x.value = 2 ∧ st' = { st with directoryUse := true }) ∨
      x.code = 4 ∧ (x.value = 1 ∧ st' = { st with policy := .fallback } ∨
        x.value = 2 ∧ st' = { st with policy := .fault }) ∨
      x.code = 5 ∧ st' = { st with label := x.value } := by
  unfold applySetting
  split
  · next h => simp [h, isPlanClass_iff, and_assoc, eq_comm (a := st')]
  · next h => split <;> simp_all [eq_comm]
  · next h => split <;> simp_all [eq_comm]
  · next h => split <;> simp_all [eq_comm]
  · next h =>
    simp [h, hx, eq_comm (a := st')]
  · next h1 h2 h3 h4 h5 =>
    simp [show x.code ≠ 1 from h1, show x.code ≠ 2 from h2, show x.code ≠ 3 from h3,
      show x.code ≠ 4 from h4, show x.code ≠ 5 from h5]

/-! ### List items -/

theorem findIdx?_of_first_none {α β : Type} {f : α → Option β} {before after : List α} {x : α}
    (hbefore : ∀ y ∈ before, f y ≠ none) (hx : f x = none) :
    (before ++ x :: after).findIdx? (fun y => (f y).isNone) = some before.length := by
  have absent : before.findIdx? (fun y => (f y).isNone) = none :=
    List.findIdx?_eq_none_iff.2 fun y hy => by simpa [Option.isSome_iff_ne_none] using hbefore y hy
  simp [List.findIdx?_append, absent, List.findIdx?_cons, hx]

theorem findIdx?_of_parsed {α β : Type} {f : α → Option β} {xs : List α}
    (h : ∀ x ∈ xs, f x ≠ none) : xs.findIdx? (fun y => (f y).isNone) = none :=
  List.findIdx?_eq_none_iff.2 fun y hy => by simpa [Option.isSome_iff_ne_none] using h y hy

section
variable {α β : Type} {f : α → Option β} {xs : List α} {es : List β}
  (h : xs.map f = es.map some)
include h

theorem ne_none_of_parsed : ∀ x ∈ xs, f x ≠ none := fun x hx hn => by
  have : none ∈ es.map some := h ▸ List.mem_map.2 ⟨x, hx, hn⟩
  simp at this

theorem filterMap_of_parsed : xs.filterMap f = es := by
  have := congrArg (List.filterMap id) h
  simpa [List.filterMap_map, Function.comp_def] using this

theorem length_of_parsed : es.length = xs.length := by
  simpa using (congrArg List.length h).symm

end

/-! ### The loads -/

theorem exec_of_loading {s t : State} {c : Instr} {tag code slot : Nat} {k : SlotId} {r : Request}
    {act : SlotId → State} (hs : s.TakesAtOnce) (hk : slotOf slot = some k)
    (hst : (s.slot k).state = .loading) (arrives : exec c s = s.unlessReset (s.submit tag r))
    (acts : s.perform tag r = s.withLoading tag code slot act) (ht : act k = t) :
    exec c s = .next t.transmit :=
  exec_of_slot hs hk arrives acts (by rw [hst]; exact ht)

theorem exec_of_load_refused {s : State} {c : Instr} {tag code slot : Nat} {k : SlotId} {r : Request}
    {act : SlotId → State} {st : Status} (hs : s.TakesAtOnce) (hk : slotOf slot = some k)
    (hst : loadRefusal (s.slot k).state = some st)
    (arrives : exec c s = s.unlessReset (s.submit tag r))
    (acts : s.perform tag r = s.withLoading tag code slot act) :
    exec c s = .next (s.answer tag code st []).transmit :=
  exec_of_slot hs hk arrives acts (by rw [hst])

section
variable {α β : Type} {s : State} {tag code : Nat} {k : SlotId} {start : Option Nat} {items : List α}
  {capacity : Nat} {parse : α → Option β} {old : List β} {ptr : Nat}
  {put : List β → Nat → PlanSlot → PlanSlot}

theorem State.loadTable_of_beyond (h : old.length < start.getD ptr) :
    s.loadTable tag code k start items capacity parse old ptr put =
      s.answer tag code .badIndex (u16 old.length) := if_pos h

section
variable (hle : start.getD ptr ≤ old.length)
include hle

theorem State.loadTable_of_overflow (h : capacity < start.getD ptr + items.length) :
    s.loadTable tag code k start items capacity parse old ptr put =
      s.answer tag code .capacity (u16 capacity ++ u16 old.length) := by
  rw [State.loadTable, if_neg (not_lt.2 hle), if_pos h]

variable (hcap : start.getD ptr + items.length ≤ capacity)
include hcap

theorem State.loadTable_of_bad {before after : List α} {x : α} (hitems : items = before ++ x :: after)
    (hbefore : ∀ y ∈ before, parse y ≠ none) (hx : parse x = none) :
    s.loadTable tag code k start items capacity parse old ptr put =
      s.answer tag code .badValue (u16 before.length) := by
  subst hitems
  rw [State.loadTable, if_neg (not_lt.2 hle), if_neg (not_lt.2 hcap)]
  simp only [findIdx?_of_first_none hbefore hx]

theorem State.loadTable_of_nothing (hstart : start = none) (hitems : items = []) :
    s.loadTable tag code k start items capacity parse old ptr put =
      s.answer tag code .done (u16 old.length ++ u16 ptr) := by
  rw [State.loadTable, if_neg (not_lt.2 hle), if_neg (not_lt.2 hcap)]
  simp [hstart, hitems]

theorem State.loadTable_of_written {es : List β} (hes : items.map parse = es.map some)
    (hsome : items ≠ [] ∨ start ≠ none) :
    s.loadTable tag code k start items capacity parse old ptr put =
      (s.modSlot k (put (writeTable old (start.getD ptr) es) (start.getD ptr + items.length))).answer tag
        code .done (u16 (writeTable old (start.getD ptr) es).length ++
          u16 (start.getD ptr + items.length)) := by
  have something : ¬ (start = none ∧ items.isEmpty = true) := by
    rw [List.isEmpty_iff]
    tauto
  rw [State.loadTable, if_neg (not_lt.2 hle), if_neg (not_lt.2 hcap)]
  simp only [findIdx?_of_parsed (ne_none_of_parsed hes), if_neg something, filterMap_of_parsed hes,
    length_of_parsed hes]

end

theorem writeTable_of_parsed {st : Nat} {es : List β} (hes : items.map parse = es.map some) :
    writeTable old st es = if items = [] then old.take st
      else old.take st ++ es ++ old.drop (st + items.length) := by
  have length := length_of_parsed hes
  have empty : es.isEmpty = true ↔ items = [] := by
    rw [List.isEmpty_iff, ← List.length_eq_zero_iff, length, List.length_eq_zero_iff]
  simp only [writeTable, empty, length]

end

theorem loadRefusal_eq {st : SlotState} {r : Status}
    (h : st = .empty ∧ r = .notOpen ∨ st = .checking ∧ r = .busy ∨
      (st = .ready ∨ st = .active ∨ st = .retiring) ∧ r = .protected_) :
    loadRefusal st = some r := by
  obtain ⟨rfl, rfl⟩ | ⟨rfl, rfl⟩ | ⟨rfl | rfl | rfl, rfl⟩ := h <;> rfl

/-- Settles O29: the loads refused, the ranges of their entries, and the tables written. -/
theorem loadsWriteTheirTables : Obligations.LoadsWriteTheirTables := by
  refine ⟨fun tag slot k s r hs hk hst => ?_, fun tag slot k s start st hs hk hst => ⟨?_, ?_, ?_⟩,
    fun x e => rangeEntry_eq_some_iff, fun x e => doctypeEntry_eq_some_iff, fun x e => ?_,
    fun x c e => ?_, fun st x st' hx => applySetting_eq_some_iff hx,
    fun tag slot k s hs hk hst => ⟨?_, ?_, ?_⟩, fun tag slot k s hs hk hst => ⟨?_, ?_, ?_, ?_⟩⟩
  · have refused := loadRefusal_eq hst
    exact ⟨fun st xs => exec_of_load_refused hs hk refused rfl rfl,
      fun st xs => exec_of_load_refused hs hk refused rfl rfl,
      fun xs => exec_of_load_refused hs hk refused rfl rfl,
      fun st xs => exec_of_load_refused hs hk refused rfl rfl,
      fun xs => exec_of_load_refused hs hk refused rfl rfl⟩
  · rintro xs rfl
    exact ⟨fun h => exec_of_loading hs hk hst rfl rfl (State.loadTable_of_beyond h),
      fun hle h => exec_of_loading hs hk hst rfl rfl (State.loadTable_of_overflow hle h),
      fun hle hcap => ⟨fun before x after hxs hb hx =>
        exec_of_loading hs hk hst rfl rfl (State.loadTable_of_bad hle hcap hxs hb hx),
        fun h hxs => exec_of_loading hs hk hst rfl rfl (State.loadTable_of_nothing hle hcap h hxs)⟩⟩
  · rintro xs rfl
    exact ⟨fun h => exec_of_loading hs hk hst rfl rfl (State.loadTable_of_beyond h),
      fun hle h => exec_of_loading hs hk hst rfl rfl (State.loadTable_of_overflow hle h),
      fun hle hcap => ⟨fun before x after hxs hb hx =>
        exec_of_loading hs hk hst rfl rfl (State.loadTable_of_bad hle hcap hxs hb hx),
        fun h hxs => exec_of_loading hs hk hst rfl rfl (State.loadTable_of_nothing hle hcap h hxs)⟩⟩
  · rintro xs rfl
    exact ⟨fun h => exec_of_loading hs hk hst rfl rfl (State.loadTable_of_beyond h),
      fun hle h => exec_of_loading hs hk hst rfl rfl (State.loadTable_of_overflow hle h),
      fun hle hcap => ⟨fun before x after hxs hb hx =>
        exec_of_loading hs hk hst rfl rfl (State.loadTable_of_bad hle hcap hxs hb hx),
        fun h hxs => exec_of_loading hs hk hst rfl rfl (State.loadTable_of_nothing hle hcap h hxs)⟩⟩
  · rw [formatEntry_eq_some_iff]
    simp only [prefixOf_eq_some_iff, schemeOf_eq_some_iff]
    constructor
    · rintro ⟨ds, c, ⟨h1, h4, pfx⟩, scheme, ⟨h7, h6, h32, ha, ha', hl, hl', hd, hd'⟩, rfl⟩
      exact ⟨h7, h1, h4, pfx, h6, h32, ha, ha', hl, hl', hd, hd', scheme, rfl⟩
    · rintro ⟨h7, h1, h4, pfx, h6, h32, ha, ha', hl, hl', hd, hd', scheme, he⟩
      exact ⟨e.pfx, e.scheme, ⟨h1, h4, pfx⟩, scheme, ⟨h7, h6, h32, ha, ha', hl, hl', hd, hd'⟩, he⟩
  · rw [classEntryOf_eq_some_iff]
    simp only [laneBins_eq_some_iff]
    refine and_congr_right fun _ => or_congr Iff.rfl (and_congr_right fun _ => ?_)
    constructor
    · rintro ⟨_, _, ⟨h0, o0, rfl, ho0⟩, ⟨h1, o1, rfl, ho1⟩, rfl⟩
      exact ⟨h0, h1, o0, o1, rfl, ho0, ho1⟩
    · rintro ⟨h0, h1, o0, o1, rfl, ho0, ho1⟩
      exact ⟨_, _, ⟨h0, o0, rfl, ho0⟩, ⟨h1, o1, rfl, ho1⟩, rfl⟩
  · rintro start xs es st t rfl hle hcap hes hsome rfl
    rw [← writeTable_of_parsed hes]
    exact exec_of_loading hs hk hst rfl rfl (State.loadTable_of_written hle hcap hes hsome)
  · rintro start xs es st t rfl hle hcap hes hsome rfl
    rw [← writeTable_of_parsed hes]
    exact exec_of_loading hs hk hst rfl rfl (State.loadTable_of_written hle hcap hes hsome)
  · rintro start xs es st t rfl hle hcap hes hsome rfl
    rw [← writeTable_of_parsed hes]
    exact exec_of_loading hs hk hst rfl rfl (State.loadTable_of_written hle hcap hes hsome)
  · rintro xs es v hes rfl
    refine exec_of_loading hs hk hst rfl rfl ?_
    simp only [findIdx?_of_parsed (ne_none_of_parsed hes), filterMap_of_parsed hes]
    rfl
  · intro before x after hbefore hx
    refine exec_of_loading hs hk hst rfl rfl ?_
    simp only [findIdx?_of_first_none hbefore hx]
  · intro xs hxs
    refine exec_of_loading hs hk hst rfl rfl ?_
    simp only [findIdx?_of_parsed hxs]
    rfl
  · intro before x after hbefore hx
    refine exec_of_loading hs hk hst rfl rfl ?_
    simp only [findIdx?_of_first_none hbefore hx]

end Sys2Proof.Machine
end

section
/-! SUPPORT. O30 and O33: PLAN CHECK and its completion (R78, R79, R82), and the plan store's reports
(R89, R90). -/

namespace Sys2Proof.Machine

theorem State.event_of_buffer {s t : State} (hs : s.Quiet) (h : t.link.buffer = s.link.buffer) :
    s.unlessReset t.settle = .next t.transmit := by
  rw [State.unlessReset_of_not hs.1, State.settle_of_buffer_nil (h.trans hs.2)]

/-! ### PLAN CHECK -/

theorem State.checkCompletes_of_pass {s : State} {k : SlotId} {us : Nat}
    (hc : s.checker = some ⟨k, us⟩) (he : (s.slot k).checkError = none) :
    s.checkCompletes = (({ s with checker := none }).setSlot k { s.slot k with
      state := .ready, lastCheck := .pass }).raise (.planChecked k none) := by
  rw [State.checkCompletes, hc]
  simp only [State.modSlot, State.slot_with_checker, he]
  rfl

theorem State.checkCompletes_of_fail {s : State} {k : SlotId} {us : Nat} {e : CheckError}
    (hc : s.checker = some ⟨k, us⟩) (he : (s.slot k).checkError = some e) :
    s.checkCompletes = (({ s with checker := none }).setSlot k { s.slot k with
      state := .loading, lastCheck := .fail e }).raise (.planChecked k (some e)) := by
  rw [State.checkCompletes, hc]
  simp only [State.modSlot, State.slot_with_checker, he]
  rfl

/-- The completion of a check leaves the request buffer. -/
theorem State.checkCompletes_buffer (s : State) : s.checkCompletes.link.buffer = s.link.buffer := by
  unfold State.checkCompletes
  split
  · rfl
  · next c _ =>
    exact ((State.modSlot_frame { s with checker := none } c.slot _).trans
      (State.raise_frame _ _)).buffer

/-- Settles O30: PLAN CHECK by slot state, and the completion by the verdict. -/
theorem planCheckAndCompletion : Obligations.PlanCheckAndCompletion := by
  refine ⟨fun tag slot k s hs hk => ⟨fun hb => ?_, fun hc => ⟨fun hst => ?_, fun hst => ?_,
    fun hst => ?_⟩⟩, fun k us s hs hc => ⟨fun he => ?_, fun e he => ?_⟩⟩
  · exact exec_of_slot hs hk rfl rfl (if_pos (Option.isSome_iff_ne_none.2 hb))
  · exact exec_of_slot hs hk rfl rfl (by simp only [hc, hst]; rfl)
  · exact exec_of_slot hs hk rfl rfl (by simp [hc, hst])
  · exact exec_of_slot hs hk rfl rfl (by obtain hst | hst | hst := hst <;> simp [hc, hst])
  · exact (State.event_of_buffer hs s.checkCompletes_buffer).trans
      (by rw [State.checkCompletes_of_pass hc he])
  · exact (State.event_of_buffer hs s.checkCompletes_buffer).trans
      (by rw [State.checkCompletes_of_fail hc he])

/-! ### PLAN READ -/

section
variable {α : Type} {s : State} {tag i : Nat} {t : List α} {fields : α → Bytes}

theorem State.readTable_of_entry {e : α} (h : t[i]? = some e) :
    s.readTable tag t fields i = s.answer tag 0x39 .done (fields e ++ u16 t.length) := by
  simp only [State.readTable, h]

theorem State.readTable_of_beyond (h : t.length ≤ i) :
    s.readTable tag t fields i = s.answer tag 0x39 .badIndex (u16 t.length) := by
  simp only [State.readTable, List.getElem?_eq_none h]

end

theorem checkOutcomeFields_fail (e : CheckError) : checkOutcomeFields (.fail e) =
    [2#8] ++ (u8 e.table.code ++ u16 e.index ++ u8 e.kind.code) := by
  have outcome : u8 2 = [2#8] := by decide
  rw [← outcome]
  rfl

/-- Settles O33: PLAN STATUS and PLAN READ, field by field. -/
theorem planReports : Obligations.PlanReports := by
  refine ⟨fun tag slot index k s hs hk => ⟨exec_of_perform hs rfl rfl,
      fun e he => exec_of_slot hs hk rfl rfl (State.readTable_of_entry he),
      fun h => exec_of_slot hs hk rfl rfl (State.readTable_of_beyond h),
      fun e he => exec_of_slot hs hk rfl rfl (State.readTable_of_entry he),
      fun h => exec_of_slot hs hk rfl rfl (State.readTable_of_beyond h),
      fun h => exec_of_slot hs hk rfl rfl (by simp [PlanSlot.classEntry, h]),
      fun h => exec_of_slot hs hk rfl rfl (if_neg (not_lt.2 h)),
      fun e he => exec_of_slot hs hk rfl rfl (State.readTable_of_entry he),
      fun h => exec_of_slot hs hk rfl rfl (State.readTable_of_beyond h),
      exec_of_slot hs hk rfl rfl rfl, fun t ht => ?_⟩,
    fun k => ?_, fun f => rfl, fun e => rfl, fun e => rfl, fun e => rfl, fun st => ?_⟩
  · refine exec_of_slot hs hk rfl rfl ?_
    obtain rfl | ht := ht
    · rfl
    · obtain ⟨n, rfl⟩ := Nat.exists_eq_add_of_le' ht
      rfl
  · rw [PlanSlot.statusFields]
    cases k.lastCheck with
    | none => rfl
    | pass => rfl
    | fail e => exact congrArg (HAppend.hAppend _) (checkOutcomeFields_fail e)
    | abandoned => rfl
  · rw [Settings.fields]
    cases st.directoryUse <;> rfl

end Sys2Proof.Machine
end

section
/-! SUPPORT. O35 to O38: the directory port's requests, lines, searches and timeouts (5.2 to 5.4). -/

namespace Sys2Proof.Machine

/-! ### DIRECTORY SET and DIRECTORY STATUS (R101, R110) -/

theorem directoryRefused_iff {base count wait : Nat} : directoryRefused base count wait = true ↔
    base % 2 = 1 ∨ 1048575 < base ∨ 262144 < count ∨ 1048576 < base + 2 * count ∨ wait < 1 ∨
      255 < wait := by
  simp only [directoryRefused, Bool.or_eq_true, decide_eq_true_eq, or_assoc]
  rfl

/-- Settles O35: DIRECTORY SET refused or written, and DIRECTORY STATUS. -/
theorem directorySetAndStatus : Obligations.DirectorySetAndStatus := by
  intro tag base count wait s hs
  refine ⟨fun h => ?_, fun heven hbase hcount hextent hwait1 hwait => ?_, exec_of_perform hs rfl rfl⟩
  · exact exec_of_perform hs rfl (if_pos (directoryRefused_iff.2 h))
  · exact exec_of_perform hs rfl (if_neg (mt directoryRefused_iff.1 (by omega)))

/-! ### What a search leaves alone -/

theorem State.buffer_handResult (s : State) (r : SearchResult) :
    (s.handResult r).link.buffer = s.link.buffer := (s.handResult_wideFrame r).buffer

theorem State.buffer_endSearch (s : State) (r : SearchResult) :
    (s.endSearch r).link.buffer = s.link.buffer :=
  (State.holdNotice_frame _ _).buffer.trans (State.buffer_handResult _ r)

theorem State.buffer_probeComplete (s : State) (q : Search) (w0 w1 : DirWord) :
    (s.probeComplete q w0 w1).link.buffer = s.link.buffer := by
  obtain ⟨r, h⟩ | ⟨-, q', h⟩ := s.probeComplete_ends_or_reads q w0 w1
  · rw [h, State.buffer_endSearch]
  · rw [h]

/-! ### HOLD and READY (R103, R106, R108) -/

theorem exec_holdAsserted {s t : State} (hs : s.Quiet) (h : s.holdRises = t)
    (hb : t.link.buffer = s.link.buffer) : exec .holdAsserted s = .next t.transmit := by
  rw [show exec .holdAsserted s = execHoldAsserted s from rfl, execHoldAsserted,
    if_neg (by simp [hs.1]), h, State.settle_of_buffer_nil (hb.trans hs.2)]

theorem exec_holdDeasserted {s t : State} (hs : s.Quiet) (h : s.holdFalls = t)
    (hb : t.link.buffer = s.link.buffer) : exec .holdDeasserted s = .next t.transmit := by
  rw [show exec .holdDeasserted s = execHoldDeasserted s from rfl, execHoldDeasserted,
    if_neg (by simp [hs.1]), h, State.settle_of_buffer_nil (hb.trans hs.2)]

theorem exec_readyAsserted {s t : State} {w : DirWord} (hs : s.Quiet) (h : s.readyRises w = t)
    (hb : t.link.buffer = s.link.buffer) : exec (.readyAsserted w) s = .next t.transmit := by
  rw [show exec (.readyAsserted w) s = execReadyAsserted w s from rfl, execReadyAsserted,
    if_neg (by simp [hs.1]), h, State.settle_of_buffer_nil (hb.trans hs.2)]

section
variable {s : State} {w : DirWord} (hready : s.dir.readyLine = false) (hread : s.dir.readLine = true)
  {q : Search} (hq : s.dir.search = some q)
include hready hread hq

theorem State.readyRises_of_word0 (h0 : q.word0 = none) : s.readyRises w = { s with
    dir := { s.dir with readyLine := true }.startRead { q with word0 := some w } } := by
  rw [State.readyRises, if_neg (by simp [hready])]
  simp only [hread, if_true, State.wordRead, hq, h0]

theorem State.readyRises_of_word1 {w0 : DirWord} (h0 : q.word0 = some w0) : s.readyRises w =
    ({ s with dir := { s.dir with readyLine := true } } : State).probeComplete q w0 w := by
  rw [State.readyRises, if_neg (by simp [hready])]
  simp only [hread, if_true, State.wordRead, hq, h0]

end

/-- Settles O36: HOLD by port state, and READY by the read under way. -/
theorem holdAndReadyLines : Obligations.HoldAndReadyLines := by
  refine ⟨fun s hs => ⟨fun hp => ⟨_, rfl, exec_holdAsserted hs ?_ (State.raise_frame _ _).buffer⟩,
    fun hp => exec_holdAsserted hs ?_ rfl, fun hp => exec_holdAsserted hs ?_ rfl,
    fun hp => ⟨_, rfl, exec_holdDeasserted hs ?_ (State.raise_frame _ _).buffer⟩,
    fun hp => exec_holdDeasserted hs ?_ rfl⟩,
    fun w s hs => ⟨fun hr => exec_readyAsserted hs (if_pos hr) rfl,
      fun hr hl => exec_readyAsserted hs ?_ rfl,
      fun hr hl q hq => ⟨fun h0 => exec_readyAsserted hs (State.readyRises_of_word0 hr hl hq h0) rfl,
        fun w0 h0 => exec_readyAsserted hs (State.readyRises_of_word1 hr hl hq h0)
          (State.buffer_probeComplete ..)⟩,
      rfl⟩⟩
  · simp only [State.holdRises, hp]
    rfl
  · simp only [State.holdRises, hp]
  · obtain hp | hp := hp <;> simp only [State.holdRises, hp]
  · simp only [State.holdFalls, hp]
    rfl
  · cases h : s.dir.port with
    | held => exact absurd h hp
    | idle => simp only [State.holdFalls, h]
    | probing => simp only [State.holdFalls, h]
    | yielding => simp only [State.holdFalls, h]
  · simp [State.readyRises, hr, hl]

/-! ### Searches (R100, R102, R107, R109) -/

theorem entryAccount_eq (w0 w1 : DirWord) :
    entryAccount w0 w1 = w0.toNat + 4294967296 * (w1.toNat % 256) := by
  have low : w0.toNat < 2 ^ 32 := w0.isLt
  rw [entryAccount, BitVec.toNat_append, BitVec.extractLsb'_toNat, Nat.shiftLeft_eq,
    ← Nat.shiftLeft_eq, ← Nat.shiftLeft_add_eq_or_of_lt low, Nat.shiftLeft_eq, Nat.shiftRight_zero]
  omega

theorem entryClass_eq (w1 : DirWord) : entryClass w1 = w1.toNat / 256 % 64 := by
  rw [entryClass, BitVec.extractLsb'_toNat, Nat.shiftRight_eq_div_pow]

section
variable {s : State} {q : Search} {w0 w1 : DirWord}

theorem State.probeComplete_of_yielding (hp : s.dir.port = .yielding) : s.probeComplete q w0 w1 =
    ({ s with dir := { s.dir with consecutive := 0 } } : State).endSearch .unavailable := if_pos hp

variable (hp : s.dir.port = .probing)
include hp

theorem State.probeComplete_of_found (h : entryAccount w0 w1 = q.account) : s.probeComplete q w0 w1 =
    ({ s with dir := { s.dir with consecutive := 0 } } : State).endSearch (.found (entryClass w1)) := by
  rw [State.probeComplete]
  simp only [hp, reduceCtorEq, if_false, h, if_true]

theorem State.probeComplete_of_lower (h : q.account < entryAccount w0 w1) : s.probeComplete q w0 w1 =
    if (q.low + (q.stop - 1)) / 2 ≤ q.low then
      ({ s with dir := { s.dir with consecutive := 0 } } : State).endSearch .notFound
    else { s with dir := { s.dir with consecutive := 0 }.startRead { q with
      stop := (q.low + (q.stop - 1)) / 2, word0 := none } } := by
  rw [State.probeComplete]
  simp only [hp, reduceCtorEq, if_false, h.ne', h, if_true]

theorem State.probeComplete_of_higher (h : entryAccount w0 w1 < q.account) : s.probeComplete q w0 w1 =
    if q.stop ≤ (q.low + (q.stop - 1)) / 2 + 1 then
      ({ s with dir := { s.dir with consecutive := 0 } } : State).endSearch .notFound
    else { s with dir := { s.dir with consecutive := 0 }.startRead { q with
      low := (q.low + (q.stop - 1)) / 2 + 1, word0 := none } } := by
  rw [State.probeComplete]
  simp only [hp, reduceCtorEq, if_false, h.ne, not_lt.2 h.le]

end

theorem Directory.afterSearch_of_free {d : Directory} (b : Bool)
    (h : d.port ≠ .yielding ∨ d.holdLine = false) : d.afterSearch b = { d with
      search := none, readLine := false, address := none, port := .idle } :=
  if_neg fun ⟨hy, hh⟩ => by simp_all

theorem Directory.afterSearch_of_hold {d : Directory} (b : Bool) (hy : d.port = .yielding)
    (hh : d.holdLine = true) : d.afterSearch b = { d with
      search := none, readLine := false, address := none, port := .held, holdAck := true, wanted := b } :=
  if_pos ⟨hy, hh⟩

/-- Settles O37: the halving search, its ends, and the hold granted after it. -/
theorem searchHalvesAndEnds : Obligations.SearchHalvesAndEnds := by
  refine ⟨fun q w0 w1 s u mid account hp hmid haccount hu => ?_,
    fun q w0 w1 s hp => State.probeComplete_of_yielding hp, fun r s => ⟨fun h => ?_,
      fun hy hh u hu => ?_, fun j hj hst => ?_⟩⟩
  · obtain rfl := haccount.trans (entryAccount_eq w0 w1).symm
    subst hmid hu
    rw [← entryClass_eq]
    refine ⟨State.probeComplete_of_found hp, fun h hlow => ?_, fun h hlow => ?_, fun h hstop => ?_,
      fun h hstop => ?_⟩
    · rw [State.probeComplete_of_lower hp h, if_neg (not_le.2 hlow)]
      rfl
    · rw [State.probeComplete_of_lower hp h, if_pos hlow]
    · rw [State.probeComplete_of_higher hp h, if_neg (not_le.2 hstop)]
      rfl
    · rw [State.probeComplete_of_higher hp h, if_pos hstop]
  · rw [State.endSearch, Directory.afterSearch_of_free _ h]
    rfl
  · rw [State.endSearch, Directory.afterSearch_of_hold _ hy hh, hu]
    rfl
  · simp only [State.handResult, hj, if_pos hst]

/-! ### Timeouts (R104, R107) -/

/-- The TIMEOUT notice, the FAILED notice at 2, and the result handed over, from the port `d`. -/
def State.reportTimeout (s : State) (d : Directory) : State :=
  (if s.dir.consecutive = 0 then ({ s with dir := d } : State).raiseDirectory .timeout
    else (({ s with dir := d } : State).raiseDirectory .timeout).raiseDirectory .failed).handResult
      .timeout

theorem State.searchTimeout_eq (s : State) : s.searchTimeout =
    (s.reportTimeout (s.dir.countTimeout.afterSearch false)).holdNotice
      (decide ((s.dir.countTimeout.afterSearch false).port = .held)) := by
  unfold State.searchTimeout State.reportTimeout
  by_cases h : s.dir.consecutive = 0
  · have once : ¬ 2 ≤ s.dir.consecutive + 1 := by omega
    simp only [if_neg once, if_pos h]
  · have twice : 2 ≤ s.dir.consecutive + 1 := by omega
    simp only [if_pos twice, if_neg h]

/-- Settles O38: the timeout counted and reported, and the port after it. -/
theorem readTimeoutCounts : Obligations.ReadTimeoutCounts := by
  intro s d h handed hs hd hh hhanded
  have reported : ∀ x, handed x = s.reportTimeout x := fun x => by
    rw [hhanded, State.reportTimeout]
    rfl
  refine ⟨fun hr => ?_, fun hr => ⟨fun hp => ?_, fun hy hl => ?_⟩⟩
  · exact (State.event_of_buffer hs (t := s.readTimesOut)
      (by rw [State.readTimesOut, if_neg (by simp [hr])])).trans
        (by rw [State.readTimesOut, if_neg (by simp [hr])])
  · have free : s.dir.countTimeout.afterSearch false = d := by
      rw [hd]
      refine Directory.afterSearch_of_free false ?_
      obtain hp | ⟨-, hl⟩ := hp
      · exact .inl (by simp [Directory.countTimeout, hp])
      · exact .inr hl
    have idle : d.port = .idle := by rw [hd]
    refine (State.unlessReset_of_not hs.1).trans ?_
    rw [State.readTimesOut, if_pos hr, State.searchTimeout_eq, free, idle, reported]
    rfl
  · have held : s.dir.countTimeout.afterSearch false = h := by
      rw [hh, hd]
      exact Directory.afterSearch_of_hold false hy hl
    have port : h.port = .held := by rw [hh]
    refine (State.unlessReset_of_not hs.1).trans ?_
    rw [State.readTimesOut, if_pos hr, State.searchTimeout_eq, held, port, reported]
    rfl

end Sys2Proof.Machine
end

section
/-! SUPPORT. O39, O41, O43 and O44: the lookup block's requests (R115, R118), the engine's stages (R98,
R119 to R123) and the delivery of results (R34, R124, R125, R130). -/

namespace Sys2Proof.Machine

/-! ### QUERY and ARBITER SET -/

theorem SlotState.queryable_eq_false_iff {st : SlotState} :
    st.queryable = false ↔ st = .empty ∨ st = .loading ∨ st = .checking := by
  cases st <;> simp [SlotState.queryable]

theorem SlotState.queryable_iff {st : SlotState} :
    st.queryable = true ↔ st = .ready ∨ st = .active ∨ st = .retiring := by
  cases st <;> simp [SlotState.queryable]

theorem query_out_of_range_iff {account : Nat} {doctype : Option Nat} :
    Config.accountMax < account ∨ doctype.any (fun d => 999 < d) = true ↔
      999999999999 < account ∨ ∃ d, doctype = some d ∧ 999 < d := by
  cases doctype with
  | none => simp [Config.accountMax]
  | some d => simp [Config.accountMax]

theorem State.joinQuery_eq (s : State) (tag : Nat) (k : SlotId) (account : Nat) (doctype : Option Nat) :
    s.joinQuery tag k account doctype = (({ s with
      lookup := s.lookup.join (.query tag) account doctype k
      link := { s.link with reserved := s.link.reserved + 1 } } : State).setSlot k { s.slot k with
        refs := (s.slot k).refs + 1 }).grant := by
  cases k <;> rfl

/-- Settles O39: QUERY refused in its order or queued, and ARBITER SET. -/
theorem queryAndArbiterSet : Obligations.QueryAndArbiterSet := by
  refine ⟨fun tag slot account doctype k s hs hk => ⟨fun hbad => ?_, fun ha hd =>
    ⟨fun hst => ?_, fun hst => ⟨fun hfull => ?_, fun hroom => ?_⟩⟩⟩,
    fun tag p0 p1 age s hs => ⟨fun hbad => exec_of_perform hs rfl (if_pos hbad),
      fun h0 h1 hage => exec_of_perform hs rfl (if_neg (by omega))⟩⟩
  · exact exec_of_slot hs hk rfl rfl (if_pos (query_out_of_range_iff.2 hbad))
  · have in_range : ¬ (Config.accountMax < account ∨ doctype.any (fun d => 999 < d) = true) :=
      mt query_out_of_range_iff.1 (not_or.2 ⟨not_lt.2 ha, fun ⟨d, h, hlt⟩ => not_lt.2 (hd d h) hlt⟩)
    refine exec_of_slot hs hk rfl rfl ?_
    rw [if_neg in_range, if_pos (SlotState.queryable_eq_false_iff.2 hst)]
  · have in_range : ¬ (Config.accountMax < account ∨ doctype.any (fun d => 999 < d) = true) :=
      mt query_out_of_range_iff.1 (not_or.2 ⟨not_lt.2 ha, fun ⟨d, h, hlt⟩ => not_lt.2 (hd d h) hlt⟩)
    refine exec_of_slot hs hk rfl rfl ?_
    rw [if_neg in_range, if_neg (by simp [SlotState.queryable_iff.2 hst]),
      if_pos (show Config.lookupCapacity ≤ _ from hfull)]
  · have in_range : ¬ (Config.accountMax < account ∨ doctype.any (fun d => 999 < d) = true) :=
      mt query_out_of_range_iff.1 (not_or.2 ⟨not_lt.2 ha, fun ⟨d, h, hlt⟩ => not_lt.2 (hd d h) hlt⟩)
    refine exec_of_slot hs hk rfl rfl ?_
    rw [if_neg in_range, if_neg (by simp [SlotState.queryable_iff.2 hst]),
      if_neg (show ¬ Config.lookupCapacity ≤ _ from not_le.2 hroom), State.joinQuery_eq]
    rfl

/-! ### The hot list (R98) -/

theorem hotClass_eq_none_iff {hot : List HotEntry} {account : Nat} :
    hotClass hot account = none ↔ ∀ e ∈ hot, e.account ≠ account := by
  simp [hotClass]

/-- On an ordered list an account's class is that of the entry that carries it. -/
theorem hotClass_eq_some_iff {hot : List HotEntry} {account c : Nat}
    (h : hot.Pairwise (fun a b => a.account < b.account)) :
    hotClass hot account = some c ↔ ⟨account, c⟩ ∈ hot := by
  constructor
  · intro found
    obtain ⟨e, he, rfl⟩ := Option.map_eq_some_iff.1 found
    have account_eq : e.account = account := by simpa using List.find?_some he
    rw [← account_eq]
    exact List.mem_of_find?_eq_some he
  · intro mem
    obtain ⟨before, after, rfl⟩ := List.append_of_mem mem
    refine hotClass_eq_some fun e he => ?_
    exact (List.pairwise_append.1 h |>.2.2 e he _ List.mem_cons_self).ne

/-! ### The stages (R120, R122, R123) -/

theorem State.stageEnds_of_stage {s : State} {j : Job} {act : Job → State}
    (hj : s.lookup.engine = some j) : s.stageEnds j.stage act = act j := by
  simp only [State.stageEnds, hj, if_true]

theorem State.stageEnds_of_other {s : State} {j : Job} {st : EngineStage} {act : Job → State}
    (hj : s.lookup.engine = some j) (h : j.stage ≠ st) : s.stageEnds st act = s := by
  simp only [State.stageEnds, hj, if_neg h]

section
variable {t : List DoctypeEntry} {doctype : Option Nat} {result : Option (Nat × LookupSource)}

theorem doctypeResult_of_none
    (h : doctype = none ∨ ∃ d, doctype = some d ∧ ∀ e ∈ t, e.doctype ≠ d) :
    doctypeResult t doctype result = result := by
  have none_found : doctype.bind (fun d => t.find? (fun e => e.doctype = d)) = none := by
    obtain rfl | ⟨d, rfl, h⟩ := h
    · rfl
    · simpa using h
  simp only [doctypeResult, none_found]

variable {d : Nat} {before after : List DoctypeEntry} {e : DoctypeEntry} (hd : doctype = some d)
  (ht : t = before ++ e :: after) (he : e.doctype = d) (hbefore : ∀ x ∈ before, x.doctype ≠ d)
include hd ht he hbefore

theorem doctype_found : doctype.bind (fun d => t.find? (fun e => e.doctype = d)) = some e := by
  rw [hd, ht, Option.bind_some]
  exact find?_append_cons (by simpa using he) fun x hx => by simpa using hbefore x hx

theorem doctypeResult_of_replacing
    (h : e.strength = .strong ∨ ∃ c, result = some (c, .default)) :
    doctypeResult t doctype result = some (e.cls, .doctype) := by
  have found := doctype_found hd ht he hbefore
  cases hs : e.strength with
  | strong => simp only [doctypeResult, found, hs]
  | weak =>
    obtain ⟨c, rfl⟩ := h.resolve_left (by simp [hs])
    simp only [doctypeResult, found, hs, Option.map_some, if_true]

theorem doctypeResult_of_standing (hs : e.strength = .weak) (h : ∀ c, result ≠ some (c, .default)) :
    doctypeResult t doctype result = result := by
  have found := doctype_found hd ht he hbefore
  have not_default : result.map Prod.snd ≠ some LookupSource.default := fun hr => by
    obtain ⟨⟨c, src⟩, rfl, rfl⟩ := Option.map_eq_some_iff.1 hr
    exact h c rfl
  simp only [doctypeResult, found, hs, if_neg not_default]

end

/-- Settles O41: the hot list, the four timed stages, and a completion out of its stage. -/
theorem stagesComplete : Obligations.StagesComplete := by
  refine ⟨fun hot account c => hotClass_eq_some_iff, fun hot account => hotClass_eq_none_iff,
    fun j s hs hj => ?_⟩
  have taken : ∀ t : State, s.unlessReset t.settle = .next t.settle := fun t =>
    State.unlessReset_of_not hs.1
  have ends : ∀ {st} (act : Job → State), j.stage = st → s.stageEnds st act = act j := fun act h =>
    h ▸ State.stageEnds_of_stage hj
  have idles : ∀ {st} (act : Job → State), j.stage ≠ st →
      s.unlessReset (s.stageEnds st act).settle = .next s.transmit := fun act h => by
    rw [State.stageEnds_of_other hj h, taken, State.settle_of_buffer_nil hs.2]
  have stands : ∀ j' : Job, s.unlessReset (s.setJob j').settle = .next (s.setJob j').transmit :=
    fun j' => (s.setJob_frame j').event hs
  refine ⟨fun hst => ⟨fun c hc => ⟨fun hdef => ?_, fun hundef => ?_⟩, fun habsent => ?_⟩,
    fun hst => ⟨fun e he => ?_, fun hnone => ?_⟩, fun hst => ?_,
    fun hst => ⟨fun habsent => ?_, fun d before e after hd ht he hbefore => ⟨fun h => ?_, fun hs' h => ?_⟩⟩,
    idles s.hotStage, idles s.rangeStage, idles s.defaultStage, idles s.doctypeStage⟩
  · refine (taken _).trans ?_
    rw [ends _ hst, State.hotStage, hc]
    simp only [hdef, if_true]
  · refine (taken _).trans ?_
    rw [ends _ hst, State.hotStage, hc]
    simp only [hundef, Bool.false_eq_true, if_false]
  · refine (taken _).trans ?_
    rw [ends _ hst, State.hotStage, hotClass_eq_none_iff.2 habsent]
  · refine Eq.trans ?_ (stands _)
    refine congrArg (fun t : State => s.unlessReset t.settle) ?_
    rw [ends _ hst, State.rangeStage, he]
  · refine Eq.trans ?_ (stands _)
    refine congrArg (fun t : State => s.unlessReset t.settle) ?_
    rw [ends _ hst, State.rangeStage, hnone]
  · refine Eq.trans ?_ (stands _)
    exact congrArg (fun t : State => s.unlessReset t.settle) (ends _ hst)
  · refine (taken _).trans ?_
    rw [ends _ hst, State.doctypeStage, doctypeResult_of_none habsent]
  · refine (taken _).trans ?_
    rw [ends _ hst, State.doctypeStage, doctypeResult_of_replacing hd ht he hbefore h]
  · refine (taken _).trans ?_
    rw [ends _ hst, State.doctypeStage, doctypeResult_of_standing hd ht he hbefore hs' h]

/-! ### The DIRECTORY stage (R105, R119, R121) -/

/-- Settles O43: when the directory is asked, and what each result leads to. -/
theorem directoryStage : Obligations.DirectoryStage := by
  intro j s stand hstand
  obtain rfl : stand = s.setJob := funext hstand
  refine ⟨fun h => ?_, fun huse hcount => ⟨fun hp hf => ?_, fun hp hf => ?_, fun hp => ?_⟩,
    fun c => ⟨fun h => ?_, fun h => ?_⟩, rfl, fun r hr => ⟨fun hpol => ?_, fun hpol => ?_⟩⟩
  · refine if_neg fun ⟨huse, hcount⟩ => ?_
    obtain h | h := h
    · simp [h] at huse
    · omega
  · rw [State.afterHot, if_pos ⟨huse, hcount⟩, State.askDirectory]
    simp only [hp, hf, Bool.false_eq_true, if_false]
    simp [Directory.startSearch, Directory.startRead, Search.wordAddress, State.setJob, hf]
  · rw [State.afterHot, if_pos ⟨huse, hcount⟩, State.askDirectory]
    simp only [hp, hf, if_true]
  · rw [State.afterHot, if_pos ⟨huse, hcount⟩, State.askDirectory]
    simp only [hp]
  · exact if_pos h
  · refine if_neg fun ⟨h8, h63, hdef⟩ => ?_
    obtain h | h | h := h
    · omega
    · omega
    · simp [h] at hdef
  · obtain rfl | rfl := hr <;> simp only [State.directoryResult, hpol]
  · obtain rfl | rfl := hr <;> simp only [State.directoryResult, hpol]

/-! ### Delivery and decision (R34, R124, R125, R130) -/

section
variable {s : State} {j : Job} {l : LaneId} {n : Nat}

theorem State.deliver_of_present {p : Piece} (hr : j.request.requester = .piece l n)
    (hp : (s.lane l).piece n = some p) :
    s.deliver j = (s.modPiece l n (fun q => q.withResult j)).decidePiece l n (s.lane l) := by
  simp only [State.deliver, hr, hp]

theorem State.deliver_of_gone (hr : j.request.requester = .piece l n)
    (hp : (s.lane l).piece n = none) : s.deliver j = (s.countDevice (fun c => { c with
      discardedResults := c.discardedResults + 1 })).releaseRef j.request.slot := by
  simp only [State.deliver, hr, hp]

theorem State.deliver_of_query {t : Nat} (hr : j.request.requester = .query t) :
    s.deliver j = (({ s with link := { s.link with reserved := s.link.reserved - 1 } }).answer t 0x50
      .done (queryResults j)).releaseRef j.request.slot := by
  simp only [State.deliver, hr]

end

theorem Lane.decidePiece_of_routed {L : Lane} {k : PlanSlot} {l : LaneId} {n c : Nat} {p : Piece}
    (hp : L.piece n = some p) (hc : p.cls = some c) (hr : p.route = .unrouted)
    (hl : L.state ≠ .faulted) : L.decidePiece k l n =
      (L.modPiece n (fun q => { q with stage := .decided })).modPiece n
        ((L.modPiece n (fun q => { q with stage := .decided })).routePiece (k.routeBins c l)) := by
  simp only [Lane.decidePiece, hp, hc]
  exact if_pos ⟨hr, hl⟩

theorem Lane.decidePiece_of_kept {L : Lane} {k : PlanSlot} {l : LaneId} {n : Nat} {p : Piece}
    (hp : L.piece n = some p) (h : p.cls = none ∨ p.route ≠ .unrouted ∨ L.state = .faulted) :
    L.decidePiece k l n = L.modPiece n (fun q => { q with stage := .decided }) := by
  cases hc : p.cls with
  | none => simp only [Lane.decidePiece, hp, hc]
  | some c =>
    simp only [Lane.decidePiece, hp, hc]
    refine if_neg fun ⟨hr, hl⟩ => ?_
    obtain h | h | h := h
    · simp [hc] at h
    · exact h hr
    · exact hl h

theorem State.decidePiece_of_present {s : State} {l : LaneId} {n : Nat} {p : Piece} (before : Lane)
    (hp : (s.lane l).piece n = some p) : s.decidePiece l n before =
      ((s.setLane l ((s.lane l).decidePiece (s.slot p.slot) l n)).deriveBins l before).releaseRef
        p.slot := by
  simp only [State.decidePiece, hp]
  rfl

/-- Settles O44: the three deliveries, and the record decided and routed. -/
theorem lookupDeliveredAndRouted : Obligations.LookupDeliveredAndRouted := by
  refine ⟨fun j s => ⟨rfl, fun l n p hr hp => State.deliver_of_present hr hp,
    fun l n hr hp => State.deliver_of_gone hr hp, fun t hr => State.deliver_of_query hr⟩,
    fun l n p before L s hp hL => ⟨fun c hc hr hl => ?_, fun h => ?_⟩⟩
  · rw [State.decidePiece_of_present before hp, Lane.decidePiece_of_routed hp hc hr hl, hL]
  · rw [State.decidePiece_of_present before hp, Lane.decidePiece_of_kept hp h, hL]

end Sys2Proof.Machine
end

section
/-! SUPPORT. O45 and O46: routing by its steps (R88, R131 to R140), and the fire and release events
(R144 to R146). -/

namespace Sys2Proof.Machine

/-! ### The bins of a class (R88) -/

theorem PlanSlot.routeBins_of_builtIn {k : PlanSlot} {c : Nat} (l : LaneId) (hc : c ≤ 7)
    (hk : k.settings.serviceRouting = .builtIn) : k.routeBins c l = ⟨0, none⟩ := if_pos ⟨hc, hk⟩

theorem PlanSlot.routeBins_of_plan {k : PlanSlot} {c : Nat} (l : LaneId) (h : c < 64)
    (hk : 8 ≤ c ∨ k.settings.serviceRouting = .plan) :
    k.routeBins c l = (k.classes[c]).bins l := by
  have stored : ¬ (c ≤ 7 ∧ k.settings.serviceRouting = .builtIn) := fun ⟨hc, hb⟩ => by
    obtain hk | hk := hk
    · omega
    · simp [hk] at hb
  rw [PlanSlot.routeBins, if_neg stored, PlanSlot.classEntry, dif_pos h]

/-! ### Accepting bins (R132) -/

theorem gateOf_eq_some_iff {n : Nat} {g : Gate} : gateOf n = some g ↔ n = g.val + 1 := by
  constructor
  · intro h
    unfold gateOf at h
    split at h
    · obtain rfl := Option.some.inj h
      dsimp only
      omega
    · exact nomatch h
  · rintro rfl
    exact gateOf_succ g

theorem gateOf_eq_none {n : Nat} (h : n = 0 ∨ 12 < n) : gateOf n = none :=
  dif_neg (by omega)

theorem Piece.routedAt_iff {p : Piece} {g : Gate} : p.routedAt g = true ↔
    p.gate = some g ∧ (p.route = .armed ∨ p.route = .fired ∨ p.route = .captured) := by
  simp [Piece.routedAt, or_assoc]

theorem Lane.outstanding_eq (L : Lane) (g : Gate) : L.outstanding g = L.track.filter (fun p =>
    p.gate = some g ∧ (p.route = .armed ∨ p.route = .fired ∨ p.route = .captured)) :=
  List.filter_congr fun p _ => by rw [Bool.eq_iff_iff, Piece.routedAt_iff, decide_eq_true_eq]

theorem Lane.accepting_iff {L : Lane} {g : Gate} : L.accepting g = true ↔
    g.val + 1 ≤ L.constants.gateCount ∧ L.bins[g.val].out = false ∧
      L.bins[g.val].confirmed + (L.outstanding g).length < L.bins[g.val].capacity := by
  simp only [Lane.accepting, Bool.and_eq_true, decide_eq_true_eq, Bool.not_eq_true', and_assoc]
  rfl

theorem Lane.acceptingGate_eq_some_iff {L : Lane} {n : Nat} {g : Gate} :
    L.acceptingGate n = some g ↔ n = g.val + 1 ∧ L.accepting g = true := by
  rw [← gateOf_eq_some_iff, Lane.acceptingGate]
  cases gateOf n with
  | none => simp
  | some g' =>
    simp only [Option.ite_none_right_eq_some, Option.some.injEq]
    constructor
    · rintro ⟨ha, rfl⟩
      exact ⟨rfl, ha⟩
    · rintro ⟨rfl, ha⟩
      exact ⟨ha, rfl⟩

/-! ### The gap check (R138) -/

theorem Lane.not_bodyReaches_iff {L : Lane} {q : Piece} {g : Gate} : L.bodyReaches q g = false ↔
    ∃ g' : Gate, q.gate = some g' ∧ (q.route = .armed ∨ q.route = .fired ∨ q.route = .captured) ∧
      (g' = g ∨ g' < g ∧ ¬ (q.route = .captured ∧ L.bins[g'.val].out = true)) := by
  unfold Lane.bodyReaches
  cases hg : q.gate with
  | none => simp
  | some g' =>
    have routed : q.routedAt g' = true ↔
        (q.route = .armed ∨ q.route = .fired ∨ q.route = .captured) := by
      simp [Piece.routedAt_iff, hg]
    have order : g' = g ∨ g' < g ↔ ¬ g.val < g'.val := by
      rw [Fin.ext_iff, Fin.lt_def]
      omega
    have below : g'.val < g.val ↔ g' < g := Fin.lt_def.symm
    have distinct : g' < g → g' ≠ g := fun h => h.ne
    rw [← Bool.not_eq_true]
    simp only [Bool.or_eq_true, Bool.and_eq_true, Bool.not_eq_true', ← Bool.not_eq_true,
      decide_eq_true_eq, Option.some.injEq, exists_eq_left', Lane.bin, routed, below]
    tauto

theorem Lane.gapConflict_iff {L : Lane} {p : Piece} {g : Gate} : L.gapConflict p g = true ↔
    ∃ q ∈ L.track, q.number ≠ p.number ∧ L.bodyReaches q g = true ∧
      L.sweeps (L.openPosition p g) (L.releasePosition p g) q g = true := by
  simp only [Lane.gapConflict, List.any_eq_true, Bool.and_eq_true, decide_eq_true_eq, and_assoc]

/-! ### The choice and its refusals (R130, R131, R139, R140) -/

section
variable {L : Lane} {b : LaneBins} {p : Piece}

theorem Lane.chooseBin_of_zero (nr : Bool) (h : b.primary = 0) :
    L.chooseBin b nr = .runout (if nr then .notReady else .cls) := if_pos h

section
variable (nr : Bool) (h : b.primary ≠ 0)
include h

theorem Lane.chooseBin_of_primary {g : Gate} (hg : L.acceptingGate b.primary = some g) :
    L.chooseBin b nr = .gate g .cls := by
  rw [Lane.chooseBin, if_neg h, hg]

theorem Lane.chooseBin_of_overflow {g : Gate} (hp : L.acceptingGate b.primary = none)
    (hg : b.overflow.bind L.acceptingGate = some g) : L.chooseBin b nr = .gate g .overflow := by
  rw [Lane.chooseBin, if_neg h, hp]
  simp only [hg]

theorem Lane.chooseBin_of_neither (hp : L.acceptingGate b.primary = none)
    (ho : b.overflow.bind L.acceptingGate = none) : L.chooseBin b nr = .runout
      (if L.constants.gateCount < b.primary ∧
        (∀ o, b.overflow = some o → L.constants.gateCount < o) then .binAbsent else .binFull) := by
  have beyond : (b.overflow.all fun o => L.constants.gateCount < o) = true ↔
      ∀ o, b.overflow = some o → L.constants.gateCount < o := by
    cases b.overflow <;> simp
  rw [Lane.chooseBin, if_neg h, hp]
  simp only [ho, beyond, apply_ite BinChoice.runout]

end

theorem Lane.routePiece_of_runout {r : RouteReason} (h : L.chooseBin b p.notReady = .runout r) :
    L.routePiece b p = L.sendToRunout r p := by
  simp only [Lane.routePiece, h]

theorem Lane.routePiece_of_gate {g : Gate} {r : RouteReason}
    (h : L.chooseBin b p.notReady = .gate g r) : L.routePiece b p =
      if L.speed.crit then L.sendToRunout .speed p
      else if reached (behind (L.openPosition p g) L.constants.guardMargin) L.pos then
        L.sendToRunout .late p
      else if L.gapConflict p g then L.sendToRunout .gap p
      else L.arm g r p := by
  simp only [Lane.routePiece, h]

end

/-! ### Lead counts (R134) -/

/-- The lead counts are the ceiling of the quotient by 16,000. -/
theorem leadCounts_le_iff {leadTime suse n : Nat} :
    leadCounts leadTime suse ≤ n ↔ leadTime * suse ≤ 16000 * n := by
  rw [leadCounts]
  omega

/-- Settles O45: the class's bins, accepting, the gap check, the steps of routing and the lead counts. -/
theorem routingBySteps : Obligations.RoutingBySteps := by
  refine ⟨⟨fun k c l => PlanSlot.routeBins_of_builtIn l, fun k c l h hk => ?_, fun L n g => ?_,
    fun L p g f r below meets hf hr hbelow hmeets => ?_, fun L b p out hout => ?_⟩,
    fun leadTime suse => ⟨leadCounts_le_iff.1 le_rfl, fun n => leadCounts_le_iff.2, fun hl hs => ?_⟩⟩
  · rw [PlanSlot.routeBins_of_plan l h hk]
    cases l <;> rfl
  · rw [Lane.acceptingGate_eq_some_iff, Lane.accepting_iff, Lane.outstanding_eq]
    exact and_congr_right fun hn => by rw [hn]
  · have sweeps : ∀ q, L.sweeps (L.openPosition p g) (L.releasePosition p g) q g = true ↔ meets q :=
      fun q => by
        rw [hmeets q _ _ rfl rfl, hf, hr]
        exact spanMeetsPassage_iff
    rw [Lane.gapConflict_iff]
    refine exists_congr fun q => and_congr_right fun _ => and_congr_right fun _ => and_congr ?_ (sweeps q)
    rw [hbelow, ← Lane.not_bodyReaches_iff, Bool.not_eq_false]
  · obtain rfl : out = fun r => L.sendToRunout r p := funext hout
    refine ⟨fun h => Lane.routePiece_of_runout (Lane.chooseBin_of_zero _ h),
      fun h hp ho => Lane.routePiece_of_runout (Lane.chooseBin_of_neither _ h hp ho),
      fun g reason f r trail hchoice htrail hf hr => ?_⟩
    have choice : L.chooseBin b p.notReady = .gate g reason := by
      obtain ⟨h, hg, rfl⟩ | ⟨h, hp, hg, rfl⟩ := hchoice
      · exact Lane.chooseBin_of_primary _ h hg
      · exact Lane.chooseBin_of_overflow _ h hp hg
    rw [Lane.routePiece_of_gate choice]
    obtain rfl : f = L.openPosition p g := hf
    subst htrail hr
    refine ⟨fun hcrit => if_pos hcrit, fun hcrit => ?_⟩
    rw [if_neg (Bool.eq_false_iff.1 hcrit)]
    refine ⟨fun hlate => if_pos hlate, fun hlate => ?_⟩
    rw [if_neg (Bool.eq_false_iff.1 hlate)]
    refine ⟨fun hgap => if_pos hgap, fun hgap => ?_⟩
    rw [if_neg (Bool.eq_false_iff.1 hgap)]
    rfl
  · refine leadCounts_le_iff.2 ?_
    calc leadTime * suse ≤ 20000 * 16383 := Nat.mul_le_mul hl hs
      _ ≤ 16000 * 20479 := by decide

/-! ### Fire and release -/

theorem Lane.fire_of_armed {L : Lane} {l : LaneId} {n : Nat} {g : Gate} {p : Piece} {f r : Position}
    (hl : L.state ≠ .faulted) (hp : L.piece n = some p) (ha : p.route = .armed)
    (hg : p.gate = some g) (hf : p.openAt = some f) (hr : p.releaseAt = some r)
    (hdue : due p.fireAt L.pos = true) : L.fire l n =
      { L.modPiece n (fun q => { q with route := .fired, fireAt := none }) with
        holds := L.holds.set g.val (L.holds[g.val] ++ [⟨l, n, f, r⟩])
        gateOut := L.gateOut.set g.val true } := by
  rw [Lane.fire, if_neg hl]
  simp only [hp, if_pos (And.intro ha hdue), hg, hf, hr]

theorem Lane.release_of_due {L : Lane} {g : Gate} {n : Nat} {before after : List Hold} {h : Hold}
    (hl : L.state ≠ .faulted) (hholds : L.holds[g.val] = before ++ h :: after) (hn : h.piece = n)
    (hdue : reached h.releaseAt L.pos = true)
    (hbefore : ∀ x ∈ before, x.piece ≠ n ∨ reached x.releaseAt L.pos = false) : L.release g n = { L with
      holds := L.holds.set g.val (before ++ after)
      gateOut := L.gateOut.set g.val (decide (before ++ after ≠ [])) } := by
  have first : (L.holds[g.val]).find? (fun h => h.piece = n && reached h.releaseAt L.pos) = some h := by
    rw [hholds]
    refine find?_append_cons (by simp [hn, hdue]) fun x hx => ?_
    obtain h | h := hbefore x hx <;> simp [h]
  have absent : h ∉ before := fun hmem => by
    obtain h | h := hbefore h hmem
    · exact h hn
    · simp [hdue] at h
  have rest : (L.holds[g.val]).erase h = before ++ after := by
    rw [hholds, List.erase_append_right _ absent, List.erase_cons_head]
  have open_ : (!(before ++ after).isEmpty) = decide (before ++ after ≠ []) := by
    rw [Bool.eq_iff_iff, Bool.not_eq_true', ← Bool.not_eq_true, List.isEmpty_iff, decide_eq_true_eq]
  rw [Lane.release, if_neg hl]
  simp only [first, rest, open_]

/-- Settles O46: the fire event and the release event. -/
theorem fireAndRelease : Obligations.FireAndRelease := by
  intro l n g s hreset hl
  refine ⟨fun p f r hp ha hg hf hr hdue => ?_, fun before h after hholds hn hdue hbefore => ?_⟩
  · refine (State.unlessReset_of_not hreset).trans ?_
    rw [State.modLane, Lane.fire_of_armed hl hp ha hg hf hr hdue]
    rfl
  · refine (State.unlessReset_of_not hreset).trans ?_
    rw [State.modLane, Lane.release_of_due hl hholds hn hdue hbefore]

end Sys2Proof.Machine
end

section
/-! SUPPORT. O47 to O50: arrivals, window closes and losses (R153, R159 to R168), and the bins' states
and requests (R155 to R157, R164). -/

namespace Sys2Proof.Machine

/-! ### The oldest record whose window has opened -/

theorem oldestOpen_of_first {ps before after : List Piece} {p : Piece} {w : Window} {pos : Position}
    (hps : ps = before ++ p :: after) (hw : p.window = some w) (hopen : reached w.opens pos = true)
    (hbefore : ∀ q ∈ before, ∀ w', q.window = some w' → reached w'.opens pos = false) :
    oldestOpen ps pos = some p := by
  rw [oldestOpen, hps]
  refine find?_append_cons (by simpa only [hw] using hopen) fun q hq => ?_
  cases hw' : q.window with
  | none => rfl
  | some w' => exact hbefore q hq w' hw'

theorem oldestOpen_of_none {ps : List Piece} {pos : Position}
    (h : ∀ q ∈ ps, ∀ w', q.window = some w' → reached w'.opens pos = false) :
    oldestOpen ps pos = none := by
  refine List.find?_eq_none.2 fun q hq => ?_
  cases hw' : q.window with
  | none => exact Bool.false_ne_true
  | some w' => exact ne_true_of_eq_false (h q hq w' hw')

/-! ### Sensor arrivals -/

section
variable {s : State} {l : LaneId} {g : Gate}

theorem State.sensorArrival_of_faulted (h : (s.lane l).state = .faulted) : s.sensorArrival l g =
    ((s.modLane l (fun L => L.modBin g Bin.confirm)).countLane l (fun c => { c with
      binStrays := c.binStrays + 1 })).deriveBins l (s.lane l) := if_pos h

theorem State.sensorArrival_of_expected {p : Piece} (h : (s.lane l).state ≠ .faulted)
    (hp : oldestOpen ((s.lane l).outstanding g) (s.lane l).pos = some p) : s.sensorArrival l g =
      (((s.modLane l (fun L => L.modBin g Bin.confirm)).modLane l (fun L =>
        L.modBin g (fun b => { b with miss := 0 }))).finalize l p .delivered).afterFinalization l
          (s.lane l) allGates := by
  rw [State.sensorArrival, if_neg h]
  simp only [hp]

theorem State.sensorArrival_of_stray (h : (s.lane l).state ≠ .faulted)
    (hp : oldestOpen ((s.lane l).outstanding g) (s.lane l).pos = none) : s.sensorArrival l g =
      (((s.modLane l (fun L => L.modBin g Bin.confirm)).countLane l (fun c => { c with
        binStrays := c.binStrays + 1 })).raise (.stray l (some g))).deriveBins l (s.lane l) := by
  rw [State.sensorArrival, if_neg h]
  simp only [hp]

end

/-- Settles O47: an arrival that delivers, and the strays. -/
theorem sensorArrivalMatches : Obligations.SensorArrivalMatches := by
  intro l g s v hs hv
  have taken := (s.sensorArrival_frame l g).event hs
  obtain rfl : v = s.modLane l (fun L => L.modBin g Bin.confirm) := hv
  refine ⟨fun hl => ?_, fun hl => ⟨fun before p after w hps hw hopen hbefore => ?_, fun hnone => ?_⟩⟩
  · exact taken.trans (by rw [State.sensorArrival_of_faulted hl])
  · refine taken.trans ?_
    rw [State.sensorArrival_of_expected hl (oldestOpen_of_first hps hw hopen hbefore)]
    rfl
  · exact taken.trans (by rw [State.sensorArrival_of_stray hl (oldestOpen_of_none hnone)])

/-! ### Window closes -/

/-- A finalization leaves the bins' stored items. -/
theorem State.bin_finalize (s : State) (l : LaneId) (p : Piece) (f : FinalState) (g : Gate) :
    ((s.finalize l p f).lane l).bin g = (s.lane l).bin g := by
  rw [State.lane_finalize, if_pos rfl]
  rfl

theorem Lane.bin_modBin (L : Lane) (g : Gate) (f : Bin → Bin) : (L.modBin g f).bin g = f (L.bin g) :=
  Vector.getElem_set_self _

section
variable {s : State} {l : LaneId} {n : Nat} {g : Gate} {p : Piece} {w : Window}
  (hl : (s.lane l).state ≠ .faulted) (hp : (s.lane l).piece n = some p) (hg : p.gate = some g)
  (hr : p.route = .armed ∨ p.route = .fired ∨ p.route = .captured) (hw : p.window = some w)
  (hclose : reached w.closes (s.lane l).pos = true)
include hl hp hg hr hw hclose

theorem State.windowClose_eq : s.windowClose l n =
    if (s.lane l).bins[g.val].out = false ∧
        (s.lane l).constants.missLimit ≤ min 7 ((s.lane l).bins[g.val].miss + 1) then
      (((s.finalize l p .unconfirmed).modLane l (fun L => L.modBin g Bin.missOne)).takeGateOut l
        g).afterFinalization l (s.lane l) (binsFrom g)
    else ((s.finalize l p .unconfirmed).modLane l (fun L => L.modBin g Bin.missOne)).afterFinalization
      l (s.lane l) allGates := by
  have routed : p.routedAt g = true := Piece.routedAt_iff.2 ⟨hg, hr⟩
  have missed : (((s.finalize l p .unconfirmed).modLane l (fun L => L.modBin g Bin.missOne)).lane
      l).bin g = Bin.missOne (s.lane l).bins[g.val] := by
    rw [State.lane_modLane, if_pos rfl, Lane.bin_modBin, State.bin_finalize]
    rfl
  rw [State.windowClose, if_neg hl]
  simp only [hp, hg, hw, if_pos (And.intro routed hclose), missed]
  rfl

end

/-- Settles O48: the miss counted, and the gate taken out at the limit. -/
theorem windowCloseMisses : Obligations.WindowCloseMisses := by
  intro l n g p w s v hs hl hp hg hr hw hclose hv
  have taken : exec (.windowClose l n) s = .next (s.windowClose l n).transmit :=
    (s.windowClose_frame l n).event hs
  rw [State.windowClose_eq hl hp hg hr hw hclose] at taken
  obtain rfl : v = (s.finalize l p .unconfirmed).modLane l (fun L => L.modBin g Bin.missOne) := hv
  refine ⟨fun h => ?_, fun hout hlimit => ?_⟩
  · have in_service : ¬ ((s.lane l).bins[g.val].out = false ∧
        (s.lane l).constants.missLimit ≤ min 7 ((s.lane l).bins[g.val].miss + 1)) :=
      fun ⟨hout, hlimit⟩ => h.elim (by simp [hout]) (not_lt.2 hlimit)
    rw [if_neg in_service] at taken
    exact taken
  · rw [if_pos ⟨hout, hlimit⟩] at taken
    exact taken

/-! ### The run-out tray -/

section
variable {s : State} {l : LaneId}

theorem State.runoutEdge_of_faulted (h : (s.lane l).state = .faulted) : s.runoutEdge l =
    (s.modLane l Lane.confirmRunout).countLane l (fun c => { c with
      runoutStrays := c.runoutStrays + 1 }) := if_pos h

theorem State.runoutEdge_of_expected {p : Piece} (h : (s.lane l).state ≠ .faulted)
    (hp : oldestOpen (s.lane l).runoutList (s.lane l).pos = some p) : s.runoutEdge l =
      (((s.modLane l Lane.confirmRunout).modLane l (fun L => { L with lostCount := 0 })).finalize l p
        .arrived).afterFinalization l (s.lane l) allGates := by
  rw [State.runoutEdge, if_neg h]
  simp only [hp]

theorem State.runoutEdge_of_stray (h : (s.lane l).state ≠ .faulted)
    (hp : oldestOpen (s.lane l).runoutList (s.lane l).pos = none) : s.runoutEdge l =
      ((s.modLane l Lane.confirmRunout).countLane l (fun c => { c with
        runoutStrays := c.runoutStrays + 1 })).raise (.stray l none) := by
  rw [State.runoutEdge, if_neg h]
  simp only [hp]

theorem State.runoutWindowClose_of_lost {n : Nat} {p : Piece} {w : Window}
    (h : (s.lane l).state ≠ .faulted) (hp : (s.lane l).piece n = some p)
    (hr : p.route = .runoutBound) (hw : p.window = some w)
    (hclose : reached w.closes (s.lane l).pos = true) : s.runoutWindowClose l n =
      ((s.finalize l p .lost).modLane l (fun L => L.loseOne w.closes)).afterFinalization l (s.lane l)
        allGates := by
  rw [State.runoutWindowClose, if_neg h]
  simp only [hp, hw, if_pos (And.intro hr hclose)]

end

theorem Lane.loseOne_eq (L : Lane) (q : Position) : L.loseOne q = { L with
    lostCount := min 15 (L.lostCount + 1)
    jamPending := if L.constants.jamLimit ≤ min 15 (L.lostCount + 1) then some q else L.jamPending } := by
  unfold Lane.loseOne
  by_cases h : L.constants.jamLimit ≤ min 15 (L.lostCount + 1)
  · simp only [if_pos h]
  · simp only [if_neg h]

/-- Settles O49: run-out arrivals, strays and losses. -/
theorem runoutArrivalsAndLosses : Obligations.RunoutArrivalsAndLosses := by
  refine ⟨fun L => rfl, fun l s v hs hv => ?_⟩
  have taken := (s.runoutEdge_frame l).event hs
  obtain rfl : v = s.modLane l Lane.confirmRunout := hv
  refine ⟨fun hl => ?_, fun hl => ⟨fun before p after w hps hw hopen hbefore => ?_, fun hnone => ?_,
    fun n p w k hp hr hw hclose hk => ?_⟩⟩
  · exact taken.trans (by rw [State.runoutEdge_of_faulted hl])
  · refine taken.trans ?_
    rw [State.runoutEdge_of_expected hl (oldestOpen_of_first hps hw hopen hbefore)]
    rfl
  · exact taken.trans (by rw [State.runoutEdge_of_stray hl (oldestOpen_of_none hnone)])
  · refine ((s.runoutWindowClose_frame l n).event hs).trans ?_
    have lane : (s.finalize l p .lost).lane l = (s.lane l).removePiece p.number := by
      rw [State.lane_finalize, if_pos rfl]
    rw [State.runoutWindowClose_of_lost hl hp hr hw hclose, hk]
    simp only [State.modLane, Lane.loseOne_eq, lane]
    rfl

/-! ### Bins and their requests -/

theorem filterMap_ite_some {α β : Type} (p : α → Prop) [DecidablePred p] (f : α → β) (xs : List α) :
    xs.filterMap (fun x => if p x then some (f x) else none) = (xs.filter (fun x => p x)).map f := by
  induction xs with
  | nil => rfl
  | cons x xs ih => by_cases h : p x <;> simp [h, ih]

theorem State.deriveBins_eq (s : State) (l : LaneId) (before : Lane) : s.deriveBins l before =
    ((allGates.filter (fun g => (s.lane l).binState g ≠ before.binState g ∧
      (s.lane l).binState g ≠ .opened)).map (fun g => .binState l g ((s.lane l).binState g)
        (s.lane l).bins[g.val].confirmed ((s.lane l).outstanding g).length)).foldl State.raise s := by
  rw [State.deriveBins, State.deriveBinsIn, State.raiseAll, binNotices, filterMap_ite_some]
  rfl

theorem limitsOk_iff {capacity near : Nat} :
    limitsOk capacity near = true ↔ 1 ≤ capacity ∧ capacity ≤ 9999 ∧ 1 ≤ near ∧ near ≤ capacity := by
  simp [limitsOk, and_assoc]

/-- Settles O50: the bins' states and notices, BIN LIMITS, BIN SWAP and GATE RESTORE. -/
theorem binRequests : Obligations.BinRequests := by
  refine ⟨Lane.outstanding_eq, fun l before s => ⟨fun L g => rfl, s.deriveBins_eq l before⟩,
    fun tag lane n capacity near l g s hs hl => ⟨fun hbad => ?_, ?_, exec_of_lane hs hl rfl rfl rfl,
      fun hn => ?_, ?_, fun hn => ?_, ?_⟩⟩
  · refine exec_of_lane hs hl rfl rfl ?_
    have refused : (∃ g, gateOf n = some g) → limitsOk capacity near = false := fun ⟨g, hg⟩ => by
      have := gateOf_eq_some_iff.1 hg
      have := g.isLt
      rw [Bool.eq_false_iff, Ne, limitsOk_iff]
      omega
    cases hg : gateOf n with
    | none => rfl
    | some g => exact if_pos (refused ⟨g, hg⟩)
  · rintro hc1 hc hn1 hn rfl L rfl
    refine exec_of_lane hs hl rfl rfl ?_
    have in_range : ¬ limitsOk capacity near = false := by
      rw [Bool.not_eq_false, limitsOk_iff]
      exact ⟨hc1, hc, hn1, hn⟩
    simp only [gateOf_succ, if_neg in_range, State.modLane, State.lane_setLane, if_true]
    rfl
  · refine exec_of_lane hs hl rfl rfl ?_
    rw [if_neg (by omega), gateOf_eq_none (.inr hn)]
  · rintro rfl
    refine exec_of_lane hs hl rfl rfl ?_
    rw [if_neg (by omega), gateOf_succ]
    rfl
  · refine exec_of_lane hs hl rfl rfl ?_
    rw [gateOf_eq_none hn]
  · rintro rfl L rfl
    refine exec_of_lane hs hl rfl rfl ?_
    simp only [gateOf_succ, State.modLane, State.lane_setLane, if_true]
    rfl

end Sys2Proof.Machine
end

section
/-! SUPPORT. O51 and O52: the end of a speed window (R174 to R184), SPEED SET (R176, R183) and ALERT
CLEAR (R182). -/

namespace Sys2Proof.Machine

/-! ### Flags, latch and line after a window -/

theorem evalLow_eq (flag : Bool) (limit hyst f : Nat) : evalLow flag limit hyst f =
    if flag then decide (f < limit + hyst) else decide (f < limit) := by
  cases flag
  · rfl
  · simp only [evalLow, if_true]
    rw [Bool.eq_iff_iff, Bool.not_eq_true', decide_eq_false_iff_not, decide_eq_true_eq, not_le]

theorem evalHigh_eq (flag : Bool) (limit hyst f : Nat) : evalHigh flag limit hyst f =
    if flag then decide (limit < f + hyst) else decide (limit < f) := by
  cases flag
  · rfl
  · simp only [evalHigh, if_true]
    rw [Bool.eq_iff_iff, Bool.not_eq_true', decide_eq_false_iff_not, decide_eq_true_eq, not_le]

/-- The monitor after a window end, before its qualification count. -/
def SpeedMonitor.next (m : SpeedMonitor) : SpeedMonitor := m.alertAfter m.measure

/-- The part after a window end, before the qualification report. -/
def State.measured (s : State) (l : LaneId) : State :=
  (s.setLane l { s.lane l with speed := { (s.lane l).speed.next with
    qualification := if 2 ≤ (s.lane l).speed.next.qualify (s.lane l).state then 0
      else (s.lane l).speed.next.qualify (s.lane l).state } }).raiseAll
        (flagNotices l (s.lane l).speed (s.lane l).speed.next)

section
variable {s : State} {l : LaneId}

theorem State.lane_measured_state : ((s.measured l).lane l).state = (s.lane l).state := by
  rw [State.measured, State.lane_raiseAll, State.lane_setLane, if_pos rfl]

theorem State.windowEnd_of_low (h : (s.lane l).speed.next.qualify (s.lane l).state < 2) :
    s.windowEnd l = s.measured l := by
  have low : ¬ 2 ≤ ((s.lane l).speed.alertAfter (s.lane l).speed.measure).qualify (s.lane l).state :=
    not_le.2 h
  rw [State.windowEnd]
  simp only [if_neg low]
  rw [State.measured, if_neg (not_le.2 h)]
  rfl

theorem State.windowEnd_of_qualified (h : 2 ≤ (s.lane l).speed.next.qualify (s.lane l).state) :
    s.windowEnd l = (s.measured l).qualified l := by
  have high : 2 ≤ ((s.lane l).speed.alertAfter (s.lane l).speed.measure).qualify (s.lane l).state := h
  rw [State.windowEnd]
  simp only [if_pos high]
  rw [State.measured, if_pos h]
  rfl

theorem State.qualified_of_starting (h : (s.lane l).state = .starting) : s.qualified l =
    (s.setLane l { s.lane l with startTimer := false, state := .running, run := true }).raise
      (.laneState l .running .qualified) := by
  rw [State.qualified, if_pos h, State.enterLane, State.modLane_modLane]
  rfl

end

/-- The qualification count can only reach 2 in STARTING. -/
theorem SpeedMonitor.starting_of_qualify {m : SpeedMonitor} {st : LaneState} (h : 2 ≤ m.qualify st) :
    st = .starting := by
  by_contra other
  rw [SpeedMonitor.qualify, if_neg fun hc => other hc.1] at h
  omega

/-- Settles O51: the figure, the flags, the alert line, the notices and the qualification. -/
theorem windowEndMeasures : Obligations.WindowEndMeasures := by
  intro l s m f low high crit rose latch q u hs hm hf hlow hhigh hcrit hrose hlatch hq hu
  have low_eq : m.measure.low = low := by
    rw [hlow, hf]
    exact evalLow_eq ..
  have high_eq : m.measure.high = high := by
    rw [hhigh, hf]
    exact evalHigh_eq ..
  have crit_eq : m.measure.crit = crit := by
    rw [hcrit, hf]
    exact evalHigh_eq ..
  have latch_eq : m.next.latch = latch := by
    rw [hlatch, hrose, ← low_eq, ← high_eq, ← crit_eq]
    rfl
  have figure_eq : m.measure.figure = f := hf.symm
  have qualify_eq : m.next.qualify (s.lane l).state = q := by
    rw [hq, ← low_eq, ← crit_eq]
    rfl
  have measured : s.measured l = u := by
    rw [State.measured, ← hm, qualify_eq, hu]
    rw [← low_eq, ← high_eq, ← crit_eq, ← latch_eq, ← figure_eq]
    refine congrArg₂ (fun M ns => (s.setLane l { s.lane l with speed := M }).raiseAll ns) ?_ rfl
    rw [SpeedMonitor.next, SpeedMonitor.alertAfter]
    cases hmode : m.mode <;> simp [SpeedMonitor.alertLevel, SpeedMonitor.measure, hmode]
  subst hm
  have taken : exec (.windowEnd l) s = .next (s.windowEnd l).transmit :=
    (s.windowEnd_frame l).event hs
  refine ⟨fun h2 => ?_, fun h2 => ?_⟩
  · rw [taken, State.windowEnd_of_low (by rw [qualify_eq]; exact h2), measured]
  · have qualified : 2 ≤ (s.lane l).speed.next.qualify (s.lane l).state := by
      rw [qualify_eq]
      exact h2
    rw [taken, State.windowEnd_of_qualified qualified, State.qualified_of_starting, measured]
    rw [State.lane_measured_state]
    exact SpeedMonitor.starting_of_qualify qualified

/-! ### The items of SPEED SET -/

theorem alertModeOf_isSome_iff {v : Nat} : (alertModeOf v).isSome = true ↔ 1 ≤ v ∧ v ≤ 4 := by
  unfold alertModeOf
  split
  · simp
  · simp
  · simp
  · simp
  · next h1 h2 h3 h4 =>
    have : v ≠ 1 ∧ v ≠ 2 ∧ v ≠ 3 ∧ v ≠ 4 := ⟨h1, h2, h3, h4⟩
    simp only [Option.isSome_none, Bool.false_eq_true, false_iff]
    omega

theorem alertModeOf_code (mode : AlertMode) : alertModeOf mode.code = some mode := by
  cases mode <;> rfl

theorem speedItemOk_iff {x : SpeedItem} : speedItemOk x = true ↔
    x.code = 1 ∧ (x.value = 4 ∨ x.value = 8 ∨ x.value = 16 ∨ x.value = 32) ∨
    (x.code = 2 ∨ x.code = 3 ∨ x.code = 4) ∧ x.value ≤ 16383 ∨
    x.code = 5 ∧ x.value ≤ 255 ∨ x.code = 6 ∧ 1 ≤ x.value ∧ x.value ≤ 4 := by
  unfold speedItemOk
  split
  · next h => simp [h, or_assoc]
  · next h => simp [h]
  · next h => simp [h]
  · next h => simp [h]
  · next h => simp [h]
  · next h => simp [h, alertModeOf_isSome_iff]
  · next h1 h2 h3 h4 h5 h6 =>
    simp [show x.code ≠ 1 from h1, show x.code ≠ 2 from h2, show x.code ≠ 3 from h3,
      show x.code ≠ 4 from h4, show x.code ≠ 5 from h5, show x.code ≠ 6 from h6]

theorem lastValue_of_absent {xs : List SpeedItem} {code : Nat} (held : Nat)
    (h : ∀ x ∈ xs, x.code ≠ code) : lastValue xs code held = held := by
  induction xs with
  | nil => rfl
  | cons x xs ih =>
    rw [lastValue, List.foldl_cons, if_neg (h x List.mem_cons_self)]
    exact ih fun y hy => h y (List.mem_cons_of_mem _ hy)

theorem lastValue_of_last {before after : List SpeedItem} {code : Nat} (held v : Nat)
    (h : ∀ x ∈ after, x.code ≠ code) :
    lastValue (before ++ ⟨code, v⟩ :: after) code held = v := by
  rw [lastValue, List.foldl_append, List.foldl_cons, if_pos rfl]
  exact lastValue_of_absent v h

theorem lastMode_of_absent {xs : List SpeedItem} (held : AlertMode) (h : ∀ x ∈ xs, x.code ≠ 6) :
    lastMode xs held = held := by
  induction xs with
  | nil => rfl
  | cons x xs ih =>
    rw [lastMode, List.foldl_cons, if_neg (h x List.mem_cons_self)]
    exact ih fun y hy => h y (List.mem_cons_of_mem _ hy)

theorem lastMode_of_last {before after : List SpeedItem} (held mode : AlertMode)
    (h : ∀ x ∈ after, x.code ≠ 6) :
    lastMode (before ++ ⟨6, mode.code⟩ :: after) held = mode := by
  rw [lastMode, List.foldl_append, List.foldl_cons, if_pos rfl, alertModeOf_code, Option.getD_some]
  exact lastMode_of_absent mode h

/-! ### SPEED SET -/

theorem SpeedMonitor.setMode_eq (m : SpeedMonitor) (mode : AlertMode) : m.setMode mode = { m with
    mode := mode
    latch := if mode = m.mode then m.latch
      else decide (mode = .latch) && (m.low || m.high || m.crit) } := by
  unfold SpeedMonitor.setMode
  by_cases h : m.mode = mode
  · subst h
    simp
  · rw [if_neg h, if_neg (Ne.symm h)]

/-- The monitor SPEED SET leaves, without the line, which takes the level of R181. -/
theorem SpeedMonitor.write_eq (m : SpeedMonitor) (xs : List SpeedItem) : m.write xs = { m with
    nextWindow := lastValue xs 1 m.nextWindow
    lowLimit := lastValue xs 2 m.lowLimit
    highLimit := lastValue xs 3 m.highLimit
    critLimit := lastValue xs 4 m.critLimit
    hysteresis := lastValue xs 5 m.hysteresis
    mode := lastMode xs m.mode
    latch := if lastMode xs m.mode = m.mode then m.latch
      else decide (lastMode xs m.mode = .latch) && (m.low || m.high || m.crit)
    line := (m.write xs).alertLevel } := by
  have line : (m.write xs).line = (m.write xs).alertLevel := rfl
  rw [← line, SpeedMonitor.write, SpeedMonitor.setMode_eq]

theorem locked_iff {lock : Bool} {xs : List SpeedItem} :
    lock = true ∧ xs.any (fun x => x.code = 4 || x.code = 5) = true ↔
      lock = true ∧ ∃ x ∈ xs, x.code = 4 ∨ x.code = 5 := by
  simp

section
variable {tag lane : Nat} {xs : List SpeedItem} {l : LaneId} {s : State}
  (hs : s.TakesAtOnce) (hl : laneOf lane = some l)
include hs hl

theorem exec_speedSet_of_bad {before after : List SpeedItem} {x : SpeedItem}
    (hxs : xs = before ++ x :: after) (hbefore : ∀ y ∈ before, speedItemOk y = true)
    (hx : speedItemOk x = false) :
    exec (.speedSet tag lane xs) s = .next (s.answer tag 0x70 .badValue (u8 x.code)).transmit := by
  have first : xs.find? (fun x => !speedItemOk x) = some x := by
    rw [hxs]
    exact find?_append_cons (by simp [hx]) fun y hy => by simp [hbefore y hy]
  exact exec_of_lane hs hl rfl rfl (by simp only [first])

variable (hok : ∀ x ∈ xs, speedItemOk x = true)
include hok

theorem exec_speedSet_of_locked (hlock : (s.lane l).lock = true)
    (h : ∃ x ∈ xs, x.code = 4 ∨ x.code = 5) :
    exec (.speedSet tag lane xs) s = .next (s.answer tag 0x70 .locked []).transmit := by
  have none_bad : xs.find? (fun x => !speedItemOk x) = none :=
    List.find?_eq_none.2 fun x hx => by simp [hok x hx]
  refine exec_of_lane hs hl rfl rfl ?_
  simp only [none_bad, if_pos (locked_iff.2 ⟨hlock, h⟩)]

/-- An unlocked SPEED SET goes on to the order of its limits. -/
theorem exec_speedSet_of_unlocked
    (h : (s.lane l).lock = false ∨ ∀ x ∈ xs, x.code ≠ 4 ∧ x.code ≠ 5) :
    exec (.speedSet tag lane xs) s = .next (
      if lastValue xs 3 (s.lane l).speed.highLimit < lastValue xs 2 (s.lane l).speed.lowLimit then
        s.answer tag 0x70 .badValue (u8 3)
      else if lastValue xs 4 (s.lane l).speed.critLimit < lastValue xs 3 (s.lane l).speed.highLimit then
        s.answer tag 0x70 .badValue (u8 4)
      else (s.setLane l { s.lane l with speed := (s.lane l).speed.write xs }).answer tag 0x70 .done
        ((s.lane l).speed.write xs).heldFields).transmit := by
  have none_bad : xs.find? (fun x => !speedItemOk x) = none :=
    List.find?_eq_none.2 fun x hx => by simp [hok x hx]
  have unlocked : ¬ ((s.lane l).lock = true ∧ xs.any (fun x => x.code = 4 || x.code = 5) = true) :=
    fun hc => by
      obtain ⟨hlock, x, hx, hcode⟩ := locked_iff.1 hc
      obtain h | h := h
      · simp [h] at hlock
      · exact hcode.elim (h x hx).1 (h x hx).2
  refine exec_of_lane hs hl rfl rfl ?_
  simp only [none_bad, if_neg unlocked]
  rfl

end

theorem SpeedMonitor.clearAlert_of_other {m : SpeedMonitor} (h : m.mode ≠ .latch ∨ m.crit = true) :
    m.clearAlert = m := if_neg fun ⟨hm, hc⟩ => by simp_all

/-- Settles O52: SPEED SET refused or written, and ALERT CLEAR. -/
theorem speedSetAndAlertClear : Obligations.SpeedSetAndAlertClear := by
  refine ⟨fun x => speedItemOk_iff, fun xs code held => ⟨lastValue_of_absent held, ?_⟩,
    fun xs held => ⟨lastMode_of_absent held, ?_⟩, fun tag lane xs l s low high crit hs hl hlow hhigh
      hcrit => ⟨fun before x after => exec_speedSet_of_bad hs hl, fun hok =>
        ⟨fun hlock h => exec_speedSet_of_locked hs hl hok hlock h, fun h => ?_⟩⟩,
    fun tag lane l s hs hl => ⟨fun hm hc => ?_, fun h => ?_⟩⟩
  · rintro before v after rfl h
    exact lastValue_of_last held v h
  · rintro before mode after rfl h
    exact lastMode_of_last held mode h
  · rw [exec_speedSet_of_unlocked hs hl hok h, ← hlow, ← hhigh, ← hcrit]
    refine ⟨fun hlt => by rw [if_pos hlt], fun hle hlt => by rw [if_neg (not_lt.2 hle), if_pos hlt],
      fun hle hle' => ⟨(s.lane l).speed.write xs, ?_, ?_⟩⟩
    · rw [if_neg (not_lt.2 hle), if_neg (not_lt.2 hle')]
      rfl
    · have written := (s.lane l).speed.write_eq xs
      have line : ((s.lane l).speed.write xs).line = ((s.lane l).speed.write xs).alertLevel := rfl
      generalize (s.lane l).speed.write xs = m at written line
      refine ⟨?_, ?_, ?_, ?_, ?_, ?_, ?_, ?_, ?_⟩
      · rw [written, hlow]
      · rw [written, hhigh]
      · rw [written, hcrit]
      · rw [written]
      · rw [written]
      · rw [written]
      · rw [written]
      · rw [line]
        rfl
      · rw [written]
  · refine exec_of_lane hs hl rfl rfl ?_
    rw [SpeedMonitor.clearAlert, if_pos ⟨hm, hc⟩]
    rfl
  · refine exec_of_lane hs hl rfl rfl ?_
    rw [SpeedMonitor.clearAlert_of_other h]
    exact congrArg (fun t : State => t.answer tag 0x71 .done
      (bit (s.lane l).speed.latch ++ bit (s.lane l).speed.line)) (s.setLane_self l)

end Sys2Proof.Machine
end

section
/-! SUPPORT. O53 to O55: the receiver (R189), the dispatch of frames (R190 to R192) and the device
reports (R127, R201, R202). -/

namespace Sys2Proof.Machine

/-! ### The receiver -/

theorem num_pair (b0 b : Byte) : num [b0, b] = 256 * b0.toNat + b.toNat := by
  simp [num]

theorem lengthBad_iff {n : Nat} : lengthBad n = true ↔ n = 0 ∨ 300 < n := by
  rw [lengthBad, Bool.or_eq_true, decide_eq_true_eq, decide_eq_true_eq]
  rfl

theorem State.gapExpires_of_busy {s : State} (h : s.link.rx ≠ .hunt) : s.gapExpires =
    (s.setReceiver .hunt).countDevice (fun c => { c with gapAbandons := c.gapAbandons + 1 }) := by
  unfold State.gapExpires
  split
  · next hunt => exact absurd hunt h
  · rfl

theorem State.takeLengthError_of_other {s : State} {b : Byte}
    (h : ∀ b0, s.link.rx ≠ .length (some b0)) : s.takeLengthError b = s := by
  unfold State.takeLengthError
  split
  · next b0 rx => exact absurd rx (h b0)
  · rfl

theorem State.takeFrame_of_other {s : State} {b : Byte}
    (h : ∀ n got c0, s.link.rx ≠ .check n got (some c0)) : s.takeFrame b = s := by
  unfold State.takeFrame
  split
  · next n got c0 rx => exact absurd rx (h n got c0)
  · rfl

section
variable {s : State} {b : Byte} (hreset : s.resetLine = false)
include hreset

theorem exec_byteReceived {t : State} (h : s.receiveByte b = t) :
    exec (.byteReceived b) s = .next t := (State.unlessReset_of_not hreset).trans (by rw [h])

theorem exec_lengthError {t : State} (h : s.takeLengthError b = t) :
    exec (.lengthError b) s = .next t := (State.unlessReset_of_not hreset).trans (by rw [h])

theorem exec_frameReceived {t : State} (h : s.takeFrame b = t) :
    exec (.frameReceived b) s = .next t := (State.unlessReset_of_not hreset).trans (by rw [h])

theorem exec_gapAbandon {t : State} (h : s.gapExpires = t) : exec .gapAbandon s = .next t :=
  (State.unlessReset_of_not hreset).trans (by rw [h])

theorem exec_frameSent {t : State} (h : s.finishFrame = t) : exec .frameSent s = .next t :=
  (State.unlessReset_of_not hreset).trans (by rw [h])

end

/-- Settles O53: the receiver by its state, its errors, and the end of a frame sent. -/
theorem receiverByState : Obligations.ReceiverByState := by
  intro b s mv hreset hmv
  obtain rfl : mv = s.setReceiver := funext hmv
  refine ⟨fun rx => ⟨exec_byteReceived hreset ?_, exec_gapAbandon hreset ?_⟩,
    fun rx => exec_gapAbandon hreset (State.gapExpires_of_busy rx),
    fun rx => exec_byteReceived hreset ?_, fun rx => exec_byteReceived hreset ?_,
    fun b0 n rx hn => ⟨fun h1 h300 => ?_, ?_⟩,
    fun h => exec_lengthError hreset (State.takeLengthError_of_other h),
    fun n got rx => ⟨fun h => exec_byteReceived hreset ?_, fun h => exec_byteReceived hreset ?_⟩,
    fun n got rx => exec_byteReceived hreset ?_,
    fun n got c0 rx => ⟨exec_frameReceived hreset ?_, exec_byteReceived hreset ?_⟩,
    fun h => exec_frameReceived hreset (State.takeFrame_of_other h),
    fun hb htx => exec_frameSent hreset ?_, fun htx => exec_frameSent hreset ?_⟩
  · simp only [State.receiveByte, rx]
  · simp only [State.gapExpires, rx]
  · simp only [State.receiveByte, rx]
  · simp only [State.receiveByte, rx]
  · rw [← num_pair] at hn
    subst hn
    have good : ¬ lengthBad (num [b0, b]) = true := by
      rw [lengthBad_iff]
      omega
    refine ⟨exec_byteReceived hreset ?_, exec_lengthError hreset ?_⟩
    · simp only [State.receiveByte, rx, if_neg good]
    · simp only [State.takeLengthError, rx, if_neg good]
  · rintro h u rfl
    rw [← num_pair] at hn
    subst hn
    have bad := lengthBad_iff.2 h
    refine ⟨exec_byteReceived hreset ?_, exec_lengthError hreset ?_⟩
    · simp only [State.receiveByte, rx, if_pos bad]
      rfl
    · simp only [State.takeLengthError, rx, if_pos bad]
      rfl
  · simp only [State.receiveByte, rx, if_neg (not_le.2 h)]
  · simp only [State.receiveByte, rx, if_pos h]
  · simp only [State.receiveByte, rx]
  · simp only [State.takeFrame, rx]
  · simp only [State.receiveByte, rx]
  · rw [State.finishFrame, if_pos htx]
    exact State.settle_of_buffer_nil hb
  · rw [State.finishFrame, htx, if_neg (by simp)]

/-! ### Frames by kind -/

section
variable {s : State} {content : Bytes} {c0 c1 : Byte}

theorem State.frameComplete_of_crc (h : crc16 (crcCover content) = c0 ++ c1) :
    s.frameComplete content c0 c1 = (s.setReceiver .hunt).dispatchFrame content := if_pos h

theorem State.frameComplete_of_bad_crc (h : crc16 (crcCover content) ≠ c0 ++ c1) :
    s.frameComplete content c0 c1 = (s.setReceiver .hunt).countDevice (fun c => { c with
      crcErrors := c.crcErrors + 1 }) := if_neg h

end

theorem State.dispatchFrame_unknown (s : State) {kind : Byte} (body : Bytes) (h1 : kind ≠ 0x11#8)
    (h2 : kind ≠ 0x21#8) : s.dispatchFrame (kind :: body) =
      s.countDevice (fun c => { c with unknownKinds := c.unknownKinds + 1 }) := by
  rw [State.dispatchFrame, if_neg h1, if_neg h2]

/-- Three bytes, most significant first, make a position. -/
theorem position_of_bytes (p2 p1 p0 : Byte) : BitVec.ofNat 24 (num [p2, p1, p0]) = p2 ++ p1 ++ p0 := by
  have h0 : p0.toNat < 2 ^ 8 := p0.isLt
  have h1 : p1.toNat < 2 ^ 8 := p1.isLt
  have h2 : p2.toNat < 2 ^ 8 := p2.isLt
  have high : (p2 ++ p1).toNat = 256 * p2.toNat + p1.toNat := by
    rw [BitVec.toNat_append, ← Nat.shiftLeft_add_eq_or_of_lt h1, Nat.shiftLeft_eq]
    omega
  have whole : (p2 ++ p1 ++ p0).toNat = 256 * (256 * p2.toNat + p1.toNat) + p0.toNat := by
    rw [BitVec.toNat_append, ← Nat.shiftLeft_add_eq_or_of_lt h0, Nat.shiftLeft_eq, high]
    omega
  refine BitVec.eq_of_toNat_eq ?_
  rw [whole, BitVec.toNat_ofNat]
  simp only [num, List.foldl_cons, List.foldl_nil]
  omega

section
variable {s : State} {lane head p2 p1 p0 result : Byte} {chars : Bytes}

theorem State.scanReport_of_lane {l : LaneId} (hl : laneOf lane.toNat = some l) :
    s.scanReport (lane :: head :: p2 :: p1 :: p0 :: result :: chars) =
      s.modLane l (fun L => L.scanReport head.toNat (p2 ++ p1 ++ p0) result.toNat chars) := by
  have lane_field : fieldAt (lane :: head :: p2 :: p1 :: p0 :: result :: chars) 0 1 = lane.toNat := by
    simp [fieldAt, num]
  have head_field : fieldAt (lane :: head :: p2 :: p1 :: p0 :: result :: chars) 1 1 = head.toNat := by
    simp [fieldAt, num]
  have result_field :
      fieldAt (lane :: head :: p2 :: p1 :: p0 :: result :: chars) 5 1 = result.toNat := by
    simp [fieldAt, num]
  have stamp : BitVec.ofNat 24 (fieldAt (lane :: head :: p2 :: p1 :: p0 :: result :: chars) 2 3) =
      p2 ++ p1 ++ p0 := position_of_bytes p2 p1 p0
  rw [State.scanReport, if_neg (by simp), lane_field, hl]
  simp only [head_field, result_field, stamp]
  rfl

theorem State.scanReport_of_no_lane (hl : 2 ≤ lane.toNat) :
    s.scanReport (lane :: head :: p2 :: p1 :: p0 :: result :: chars) =
      s.countDevice (fun c => { c with noLaneReports := c.noLaneReports + 1 }) := by
  have lane_field : fieldAt (lane :: head :: p2 :: p1 :: p0 :: result :: chars) 0 1 = lane.toNat := by
    simp [fieldAt, num]
  rw [State.scanReport, if_neg (by simp), lane_field, laneOf_eq_none hl]

end

theorem State.requestFrame_eq (s : State) (t1 t0 code : Byte) (params : Bytes) :
    s.requestFrame (t1 :: t0 :: code :: params) =
      s.submit (256 * t1.toNat + t0.toNat) (parseRequest code.toNat params) := by
  have code_field : fieldAt (t1 :: t0 :: code :: params) 2 1 = code.toNat := by simp [fieldAt, num]
  rw [State.requestFrame, if_neg (by simp), code_field, ← num_pair]
  rfl

/-- Settles O54: a frame complete, by its CRC and its kind. -/
theorem framesDispatchedByKind : Obligations.FramesDispatchedByKind := by
  rintro kind c0 c1 body s u rfl
  have covered : crcCover (kind :: body) = u16 (body.length + 1) ++ kind :: body := rfl
  rw [← covered]
  refine ⟨fun h => State.frameComplete_of_bad_crc h, fun h => ?_⟩
  rw [State.frameComplete_of_crc h]
  refine ⟨?_, ?_, ?_, ?_, fun h1 h2 => State.dispatchFrame_unknown _ body h1 h2⟩
  · rintro rfl hshort
    exact if_pos hshort
  · rintro lane head p2 p1 p0 result chars rfl rfl
    exact ⟨fun l hl => State.scanReport_of_lane hl, fun hl => State.scanReport_of_no_lane hl⟩
  · rintro rfl hshort
    exact if_pos hshort
  · rintro t1 t0 code params rfl rfl
    exact State.requestFrame_eq _ t1 t0 code params

/-! ### The device reports -/

/-- Settles O55: DEVICE STATUS, COUNTERS READ and LOOKUP STATUS, field by field. -/
theorem deviceReports : Obligations.DeviceReports := by
  refine ⟨fun tag clear s hs => ⟨exec_of_perform hs rfl rfl, exec_of_perform hs rfl rfl,
      exec_of_perform hs rfl rfl, fun h => exec_of_perform hs rfl ?_, exec_of_perform hs rfl rfl⟩,
    fun k => rfl, fun s => ?_, fun r => ?_, rfl, fun j => rfl⟩
  · obtain ⟨n, rfl⟩ := Nat.exists_eq_add_of_le' h
    rfl
  · simp only [State.counterFields, DeviceCounters.fields, LaneCounters.fields, List.append_assoc,
      List.flatMap_cons, List.flatMap_nil, List.append_nil]
  · obtain ⟨who, account, doctype, k, arrival⟩ := r
    cases who with
    | piece l n => cases l <;> rfl
    | query t => rfl

end Sys2Proof.Machine
end
